-- ==== Sys2Proof/Word.lean ====
section
/-! DEFINITION. The word types of the ZL460: bytes of a frame and of frame memory, and Timebase values (R180). -/

namespace Sys2Proof

/-- One byte of a request frame, of a response frame or of frame memory. -/
abbrev Byte := BitVec 8

/-- A Timebase value: microseconds, modulo 2^32 (R180). -/
abbrev Stamp := BitVec 32

end Sys2Proof
end

