-- ==== Sys2Proof/Syntax.lean ====
section
/-! DEFINITION. The commands of the ZL460: one constructor of `Instr` per row of spec/opcode_table.json, with the operand
types the rules give. Numbers a request carries are plain numbers, checked against their ranges by the meanings. -/

namespace Sys2Proof

/-- The three command ports (R165). -/
inductive Port where
  | body | mount | transmitter
  deriving DecidableEq, Repr

/-- A request's header: the port it arrives on, its tag (R177), whether its body length is not that of its kind (R168; the
lengths of most kinds are not stated, so the command says whether it is wrong; log 7), and whether its transaction is early. A
transaction is early when it opened before the last reset of the part was over: it is ignored to its end (R176; log 30). -/
structure Hdr where
  port : Port
  tag : Byte
  badLength : Bool
  early : Bool
  deriving DecidableEq, Repr

/-- The port that a transaction other than a good request is on, and whether it is early (R166, R176; log 30). -/
structure Transaction where
  port : Port
  early : Bool
  deriving DecidableEq, Repr

/-- A field that names one value of a fixed set, or none of them ("names no value of its field", R99, R159; log 8). -/
inductive Field (α : Type) where
  | is (value : α)
  | invalid
  deriving DecidableEq, Repr

/-- Lens model code and converter code (R4). -/
structure LensKey where
  model : Nat
  converter : Nat
  deriving DecidableEq, Repr

/-- A geometry node (R6), as WRITE NODES carries it; k1, k2 and k3 in steps of 2^-20. -/
structure NodeRecord where
  nominal : Nat
  focus : Nat
  trueFocal : Nat
  k1 : Int
  k2 : Int
  k3 : Int
  deriving DecidableEq, Repr

/-- The four lateral colour terms of one node (R8), in steps of 2^-24. -/
structure ChromaTerms where
  redLinear : Int
  redCubic : Int
  blueLinear : Int
  blueCubic : Int
  deriving DecidableEq, Repr

/-- A chroma record as WRITE CHROMA carries it: the node index and the terms (R32). -/
structure ChromaRecord where
  index : Nat
  terms : ChromaTerms
  deriving DecidableEq, Repr

/-- The two streams (R97). -/
inductive StreamId where
  | still | preview
  deriving DecidableEq, Repr

inductive PixelFormat where
  | rgb24 | rgb48
  deriving DecidableEq, Repr

inductive BorderPolicy where
  | edge | fill
  deriving DecidableEq, Repr

/-- No-profile policy of a stream, and the fallback of SUBMIT URGENT (R97, R158). -/
inductive NoProfilePolicy where
  | pass | reject
  deriving DecidableEq, Repr

inductive CropMode where
  | profile | none
  deriving DecidableEq, Repr

/-- A fill colour: red, green and blue samples. -/
structure Rgb where
  red : Nat
  green : Nat
  blue : Nat
  deriving DecidableEq, Repr

/-- A source or destination descriptor (R109). -/
structure Descriptor where
  address : Nat
  pitch : Nat
  deriving DecidableEq, Repr

/-- The fields of CONFIGURE STREAM beside the stream (R99). -/
structure StreamArgs where
  format : Field PixelFormat
  srcWidth : Nat
  srcHeight : Nat
  outWidth : Nat
  outHeight : Nat
  border : Field BorderPolicy
  fill : Rgb
  policy : Field NoProfilePolicy
  crop : Field CropMode
  deriving DecidableEq, Repr

/-- The fields of SUBMIT URGENT (R158). -/
structure UrgentArgs where
  seq : Nat
  source : Descriptor
  dest : Descriptor
  outWidth : Nat
  outHeight : Nat
  format : Field PixelFormat
  border : Field BorderPolicy
  fill : Rgb
  crop : Field CropMode
  fallback : Field NoProfilePolicy
  deriving DecidableEq, Repr

/-- How many bytes a read transaction clocks out after its opening byte (R169): those of the frame it is sent, or `bytes`, be it
fewer or more than the frame has. -/
inductive ReadExtent where
  | whole
  | ended (bytes : Nat)
  deriving DecidableEq, Repr

/-- The two trigger inputs (R62). -/
inductive TriggerLine where
  | exps | expe
  deriving DecidableEq, Repr

/-- The transfer of the band in progress that met a bus error (R150): a read, or the write of the band's line number `line`
(0 for its first) with `bytes` bytes of that line written. -/
inductive BusTransfer where
  | read
  | write (line : Nat) (bytes : Nat)
  deriving DecidableEq, Repr

/-- The commands: requests on the ports, link events, trigger events, expiries, engine events and resets. -/
inductive Instr where
  -- requests of every port (R170, kinds 1 to 5)
  | queryTime (h : Hdr)
  | fetchNotices (h : Hdr)
  | setNoticeMask (h : Hdr) (mask : Byte)
  | resetPort (h : Hdr)
  | queryLens (h : Hdr)
  | resetPart (h : Hdr)
  -- lens requests
  | lensAttached (h : Hdr) (model converter firmware : Nat)
  | lensDetached (h : Hdr)
  | lensState (h : Hdr) (nominal focus aperture latency transit : Nat)
  | setLensTiming (h : Hdr) (limit : Nat)
  -- edit requests
  | openEdit (h : Hdr) (slot : Nat) (key : LensKey) (cx cy : Int) (carry : Byte)
  | writeNodes (h : Hdr) (nodes : List NodeRecord)
  | writeChroma (h : Hdr) (records : List ChromaRecord)
  | writeCrop (h : Hdr) (scale : Nat)
  | commitEdit (h : Hdr)
  | abortEdit (h : Hdr)
  -- store requests
  | readProfile (h : Hdr) (slot index : Nat)
  | readNode (h : Hdr) (slot index : Nat)
  | queryStore (h : Hdr)
  | deleteProfile (h : Hdr) (slot : Nat)
  -- exposure query
  | queryExposure (h : Hdr) (seq : Nat)
  -- stream requests
  | configureStream (h : Hdr) (stream : Field StreamId) (args : StreamArgs)
  | startStream (h : Hdr) (stream : Field StreamId)
  | stopStreamDrain (h : Hdr) (stream : Field StreamId) (badMode : Bool)
  | stopStreamFlush (h : Hdr) (stream : Field StreamId)
  | queryStream (h : Hdr) (stream : Field StreamId)
  -- job requests
  | submitFrame (h : Hdr) (stream : Field StreamId) (seq : Nat) (source dest : Descriptor)
  | queryJob (h : Hdr) (number : Nat)
  | cancelJob (h : Hdr) (number : Nat)
  -- memory requests
  | setWindow (h : Hdr) (base size : Nat)
  | grantMemory (h : Hdr)
  | withdrawMemory (h : Hdr)
  | setPauseLimit (h : Hdr) (limit : Nat)
  | queryMemory (h : Hdr)
  -- frame record requests
  | readRecords (h : Hdr) (start count : Nat)
  | submitUrgent (h : Hdr) (args : UrgentArgs)
  -- power requests
  | standby (h : Hdr)
  | wake (h : Hdr)
  -- link events
  | frameError (x : Transaction) (bytes : List Byte)
  | unknownKind (x : Transaction) (kind tag : Byte)
  | writeTransactionDiscarded (x : Transaction)
  | invalidOpeningByte (x : Transaction) (opening : Byte)
  | readTransaction (x : Transaction) (extent : ReadExtent)
  -- trigger events
  | triggerRisingEdge (line : TriggerLine)
  | triggerFallingEdge (line : TriggerLine)
  | exps
  | expe
  -- expiries and ageing
  | openLimitExpiry
  | resolveDeadlineExpiry (seq : Nat)
  | pauseTimerExpiry
  | wakeTimerExpiry
  | reportAged
  -- engine events
  | bandBoundary
  | busError (transfer : BusTransfer)
  -- resets
  | reset
  | resetEnd
  deriving DecidableEq, Repr

end Sys2Proof
end

