-- ==== Sys2Proof/Decode.lean ====
section
/-! DEFINITION. No row of spec/opcode_table.json gives bits: the commands of this block are requests with named fields and
events, so no word spells one. -/

namespace Sys2Proof

/-- The command that an opcode-table word spells: none, since no row of the table gives bits. -/
def decodeTableWord (_nbits _w : Nat) : Option Instr := none

end Sys2Proof
end

