-- ==== Sys2Proof/Machine/State.lean ====
section
/-! DEFINITION. The state of the ZL460 as plain data, block by block (spec 00, Blocks), the answers it gives, the reasons a
step can stop, and the state right after a reset of the part. -/

namespace Sys2Proof.Machine

/-! ### Profile Store (R1 to R22) -/

/-- A profile reference: slot and version number (R2). -/
structure ProfileRef where
  slot : Fin 32
  number : Nat
  deriving DecidableEq, Repr

/-- A LIVE or RETIRED version (R2); the role is the place where it stands in its slot. -/
structure Version where
  number : Nat
  key : LensKey
  cx : Int
  cy : Int
  nodes : List NodeRecord
  chroma : Option (List ChromaTerms)
  crop : Option Nat
  pins : Nat
  deriving DecidableEq, Repr

/-- A STAGING version (R2): no version number yet, pin count 0. -/
structure Staging where
  key : LensKey
  cx : Int
  cy : Int
  nodes : List NodeRecord
  chroma : Option (List ChromaTerms)
  crop : Option Nat
  deriving DecidableEq, Repr

/-- One slot (R1): LIVE exactly when `live` is present; `retired` in the order the versions were retired. -/
structure Slot where
  lastIssued : Nat
  live : Option Version
  staging : Option Staging
  retired : List Version
  deriving DecidableEq, Repr

/-- The Profile Store: the 32 slots and the used block count (R12). -/
structure Store where
  slots : Vector Slot 32
  used : Nat
  deriving DecidableEq, Repr

/-! ### Edit Controller (R23 to R42) -/

/-- A set of sections of a version: the carry set, the written sections, the sections carried. -/
structure Sections where
  geometry : Bool
  chroma : Bool
  crop : Bool
  deriving DecidableEq, Repr

/-- An open edit record (R23). The written sections and the staging version are read from the slot. -/
structure Edit where
  slot : Fin 32
  carry : Sections
  carrySource : Option Nat
  deriving DecidableEq, Repr

/-- The two edit records; absent means idle. -/
structure Edits where
  body : Option Edit
  transmitter : Option Edit
  deriving DecidableEq, Repr

/-! ### Lens Tracker (R43 to R61) -/

/-- A lens state: nominal focal, focus code, aperture (R45, R64). -/
structure LensState where
  nominal : Nat
  focus : Nat
  aperture : Nat
  deriving DecidableEq, Repr

/-- A stamped lens state report (R45), with the mark that it is aged. -/
structure Report where
  stamp : Stamp
  lens : LensState
  aged : Bool
  deriving DecidableEq, Repr

/-- What the tracker holds while a lens is attached (R43): BOUND when `bound` is present, UNMATCHED otherwise. -/
structure Attached where
  key : LensKey
  firmware : Nat
  bound : Option ProfileRef
  deriving DecidableEq, Repr

/-- The Lens Tracker (R43); NO_LENS when `lens` is absent. -/
structure Tracker where
  lens : Option Attached
  attachCount : BitVec 16
  history : List Report
  holdLimit : Nat
  deriving DecidableEq, Repr

/-! ### Exposure Unit (R62 to R80) -/

/-- A trigger filter (R62). -/
inductive Filter where
  | low
  | qualifying (stamp : Stamp)
  | high
  deriving DecidableEq, Repr

/-- The state flags of an exposure (R64). -/
structure StateFlags where
  held : Bool
  nearest : Bool
  detached : Bool
  noState : Bool
  unbound : Bool
  deriving DecidableEq, Repr

/-- What a resolution fixes (R64): lens state, state flags and profile reference. -/
structure Resolution where
  lens : Option LensState
  flags : StateFlags
  ref : Option ProfileRef
  deriving DecidableEq, Repr

/-- The state of an exposure record with the fields present in it (R64). -/
inductive ExposureState where
  | opened (openLimit : Stamp)
  | awaiting (ended midpoint deadline : Stamp)
  | resolved (ended midpoint : Stamp) (result : Resolution)
  | abandoned
  deriving DecidableEq, Repr

/-- An exposure record (R64). -/
structure ExposureRec where
  seq : Nat
  start : Stamp
  attachCount : BitVec 16
  key : Option LensKey
  state : ExposureState
  deriving DecidableEq, Repr

/-- The Exposure Unit: log (oldest first), next sequence number, trigger filters. -/
structure ExposureUnit where
  log : List ExposureRec
  nextSeq : Nat
  exps : Filter
  expe : Filter
  deriving DecidableEq, Repr

/-! ### Job Manager (R97 to R119) -/

/-- The configuration of a stream, and the geometry of a job (R97, R105). -/
structure Geometry where
  format : PixelFormat
  srcWidth : Nat
  srcHeight : Nat
  outWidth : Nat
  outHeight : Nat
  border : BorderPolicy
  fill : Rgb
  policy : NoProfilePolicy
  crop : CropMode
  deriving DecidableEq, Repr

inductive StreamState where
  | halted | running | draining
  deriving DecidableEq, Repr

structure Stream where
  state : StreamState
  config : Geometry
  deriving DecidableEq, Repr

inductive JobClass where
  | urgent | still | preview
  deriving DecidableEq, Repr

/-- The results a job can end with (R105). -/
inductive JobResult where
  | done | uncorrected | cancelled | skipped
  | failedMemoryFault | failedMemoryTimeout | failedExposureDropped | failedNoProfile
  deriving DecidableEq, Repr

/-- The states of a job (R105, R106); the result is present when ENDED. -/
inductive JobState where
  | queued | waiting | running | suspended | paused
  | ended (result : JobResult)
  deriving DecidableEq, Repr

/-- The result flags of a job (R108). -/
structure ResultFlags where
  clamped : Bool
  held : Bool
  nearest : Bool
  detached : Bool
  spanLimited : Bool
  reprofiled : Bool
  uncalibrated : Bool
  deriving DecidableEq, Repr

/-- A job entry (R105). -/
structure Job where
  number : Nat
  port : Port
  cls : JobClass
  seq : Nat
  source : Descriptor
  dest : Descriptor
  geom : Geometry
  key : Option LensKey
  firmware : Option Nat
  lens : Option LensState
  stateFlags : Option StateFlags
  ref : Option ProfileRef
  trueFocal : Option Nat
  state : JobState
  cancelPending : Bool
  suppressed : Bool
  bandsDone : Nat
  bandsTotal : Nat
  flags : ResultFlags
  deriving DecidableEq, Repr

/-- The Job Manager: the table in order of submission, the next job number, the two streams. -/
structure JobManager where
  table : List Job
  nextJob : Nat
  still : Stream
  preview : Stream
  deriving DecidableEq, Repr

/-! ### Correction Engine (R81 to R96, R120 to R137) -/

/-- The working set (R86): k terms in steps of 2^-20, colour terms of 2^-24, centre offset of 1/4096, scale of 1/16384. -/
structure WorkingSet where
  k1 : Int
  k2 : Int
  k3 : Int
  chroma : ChromaTerms
  cx : Int
  cy : Int
  scale : Nat
  deriving DecidableEq, Repr

/-- A context (R120, R121): the job, its next band, its working set, and whether that is the identity set of R87. -/
structure Context where
  job : Nat
  nextBand : Nat
  ws : WorkingSet
  identity : Bool
  deriving DecidableEq, Repr

/-- The engine's state with its current context (R120). -/
inductive EngineState where
  | idle
  | inBand (current : Context)
  | holding (current : Context)
  deriving DecidableEq, Repr

structure Engine where
  now : EngineState
  shadow : Option Context
  deriving DecidableEq, Repr

/-! ### Frame Memory Port (R138 to R152) -/

structure Window where
  base : Nat
  size : Nat
  deriving DecidableEq, Repr

inductive Grant where
  | granted | withdrawn
  deriving DecidableEq, Repr

structure PauseTimer where
  job : Nat
  expiry : Stamp
  deriving DecidableEq, Repr

structure MemPort where
  window : Option Window
  grant : Grant
  pendingWithdrawal : Bool
  pauseLimit : Nat
  pauseTimer : Option PauseTimer
  deriving DecidableEq, Repr

/-! ### Frame Record List (R153 to R157) -/

/-- A frame record (R154). -/
structure FrameRecord where
  seq : Nat
  job : Nat
  key : Option LensKey
  firmware : Option Nat
  lens : Option LensState
  trueFocal : Option Nat
  ref : Option ProfileRef
  result : JobResult
  flags : ResultFlags
  srcWidth : Nat
  srcHeight : Nat
  completed : Stamp
  deriving DecidableEq, Repr

/-! ### Power Control and resets (R175, R176, R183 to R187) -/

/-- The power state; the wake timer runs in WAKING alone. `inReset` is the time in reset (R187; log 16). -/
inductive Power where
  | active
  | standby
  | waking (wakeEnd : Stamp)
  | inReset
  deriving DecidableEq, Repr

/-- The RESET input, and the microseconds left of the internal reset of R175. -/
structure ResetCtl where
  input : Bool
  internal : Nat
  deriving DecidableEq, Repr

/-! ### Port Controllers (R165 to R179) -/

/-- The request kinds of R170, kind numbers 1 to 37 in this order. -/
inductive ReqKind where
  | queryTime | fetchNotices | setNoticeMask | resetPort | queryLens | resetPart
  | lensAttached | lensDetached | lensState | setLensTiming
  | openEdit | writeNodes | writeChroma | writeCrop | commitEdit | abortEdit
  | readProfile | readNode | queryStore | deleteProfile | queryExposure
  | configureStream | startStream | stopStream | queryStream
  | submitFrame | queryJob | cancelJob
  | setWindow | grantMemory | withdrawMemory | setPauseLimit | queryMemory
  | readRecords | submitUrgent | standby | wake
  deriving DecidableEq, Repr

/-- The outcomes of R170, codes 0 to 26 in this order. -/
inductive Code where
  | ok | frameError | unknownKind | badLength | notPermitted | badField
  | editOpen | editHeld | noEdit | order | tooMany | storeFull | keyInUse | invalidProfile
  | slotEmpty | noLens | staleReport | streamState | config | unknownExposure | exposureUnusable
  | noRecord | window | tableFull | unknownJob | jobEnded | engineBusy
  deriving DecidableEq, Repr

/-- A notice (R171). The changed slots of PROFILE_CHANGED are one bit per slot (R179). -/
inductive Notice where
  | jobEnded (job : Nat) (result : JobResult) (flags : ResultFlags) (bandsDone : Nat)
  | lensChanged
  | profileChanged (slots : BitVec 32)
  | recordAdded (seq : Nat)
  | protocolError (count : Nat)
  deriving DecidableEq, Repr

/-- The progress of an edit (R29). -/
structure Progress where
  nodes : Nat
  chroma : Nat
  crop : Bool
  blocks : Nat
  deriving DecidableEq, Repr

/-- Why a commit is INVALID_PROFILE (R35). -/
inductive InvalidReason where
  | noGeometry | chromaCount | chromaMismatch
  deriving DecidableEq, Repr

/-- What became of the former live version at a commit (R40). -/
inductive Former where
  | none
  | retired (number : Nat)
  | freed (number : Nat)
  deriving DecidableEq, Repr

/-- The first field of a configuration that fails (R99, R100), in the order of the table in R97. -/
inductive ConfigField where
  | srcWidth | srcHeight | outWidth | outHeight | fillColour
  deriving DecidableEq, Repr

/-- The checks of a descriptor (R110). -/
inductive WindowCheck where
  | alignment | pitch | area
  deriving DecidableEq, Repr

inductive WhichDescriptor where
  | source | destination
  deriving DecidableEq, Repr

/-- Which limit a TABLE_FULL met (R159). -/
inductive TableLimit where
  | allowance | table
  deriving DecidableEq, Repr

/-- How a withdrawal was taken (R142, R143). -/
inductive WithdrawalTaken where
  | atOnce | atBoundary | atFault
  deriving DecidableEq, Repr

/-- Why SET WINDOW is ENGINE_BUSY (R140): memory is granted, or that many entries are unended. -/
inductive WindowBusy where
  | granted
  | unended (count : Nat)
  deriving DecidableEq, Repr

/-- One entry of the retired list READ PROFILE returns (R18). -/
structure RetiredEntry where
  number : Nat
  key : LensKey
  blocks : Nat
  pins : Nat
  deriving DecidableEq, Repr

/-- The live part of READ PROFILE's answer (R18). -/
structure LiveEntry where
  number : Nat
  key : LensKey
  cx : Int
  cy : Int
  nodeCount : Nat
  chroma : Bool
  crop : Option Nat
  blocks : Nat
  pins : Nat
  deriving DecidableEq, Repr

/-- The last fields of QUERY LENS's answer (R57, R58), present when the history is not empty: the newest report as R57 lists it,
the true focal, the focus code of that report, and the flags. -/
structure LensReading where
  stamp : Stamp
  lens : LensState
  trueFocal : Nat
  focus : Nat
  uncalibrated : Bool
  clamped : Bool
  deriving DecidableEq, Repr

/-- The four states of an exposure record by name (R64). -/
inductive ExposureName where
  | opened | awaiting | resolved | abandoned
  deriving DecidableEq, Repr

/-- The fields of QUERY EXPOSURE's answer beside the number of records, as R79 lists them. -/
structure ExposureEntry where
  seq : Nat
  state : ExposureName
  start : Stamp
  ended : Option Stamp
  midpoint : Option Stamp
  attachCount : BitVec 16
  key : Option LensKey
  lens : Option LensState
  flags : StateFlags
  ref : Option ProfileRef
  deadline : Option Stamp
  deriving DecidableEq, Repr

/-- The fields a response carries beside its outcome, as the rule of each request gives them. -/
inductive Answer where
  | none
  | time (now : Stamp)
  | notices (left : Nat) (removed : List Notice)
  | masks (previous now : BitVec 5)
  | portReset (cancelled freed : Nat) (editAborted cancellationPending : Bool)
  | lens (lens : Option Attached) (attachCount : BitVec 16) (holdLimit reports : Nat) (reading : Option LensReading)
  | attached (count : BitVec 16) (bound : Option ProfileRef) (detached : Option Nat)
  | detached (count : BitVec 16) (resolved : Nat)
  | report (stamp : Stamp) (reports : Nat)
  | stale (stamp newest : Stamp)
  | limits (previous now : Nat)
  | opened (slot : Fin 32) (live : Bool) (carrySource : Option Nat)
  | blocks (needed free : Nat)
  | heldSlot (slot : Fin 32)
  | holder (port : Port)
  | written (progress : Progress) (position : Option Nat) (blocks : Option (Nat × Nat))
  | invalid (reason : InvalidReason) (progress : Progress)
  | committed (slot : Fin 32) (number : Nat) (former : Former) (carried : Sections) (nodes : Nat) (chroma crop : Bool)
      (blocks used : Nat)
  | freedBlocks (count : Nat)
  | profile (lastIssued : Nat) (live : Option LiveEntry) (retiredCount : Nat) (retired : List RetiredEntry)
      (edit : Option (Port × Nat))
  | node (number : Nat) (node : NodeRecord) (chroma : Option ChromaRecord)
  | storeCounts (used free retired staging : Nat)
  | exposure (entry : ExposureEntry) (records : Nat)
  | configured (failing : Option ConfigField)
  | configFails (field : ConfigField)
  | streamState (state : StreamState)
  | drained (state : StreamState) (unended : Nat)
  | flushed (state : StreamState) (endedNow : Nat) (cancellationPending : Bool)
  | stream (stream : Stream) (valid : Bool) (unended queued waiting : Nat)
  | submitted (number : Nat) (state : JobState) (bands skipped : Nat)
  | windowFails (which : WhichDescriptor) (check : WindowCheck)
  | tableFull (limit : TableLimit) (ended : Nat)
  | job (entry : Job)
  | cancelled (state : JobState) (pending : Bool)
  | ended (result : JobResult)
  | windowSet (now : Window) (previous : Option Window)
  | windowBusy (cause : WindowBusy)
  | granted (changed : Bool) (current : Option (Nat × JobState))
  | withdrawn (how : WithdrawalTaken) (paused : Option Nat)
  | memory (window : Option Window) (grant : Grant) (pauseLimit : Nat) (pause : Option PauseTimer) (unended : Nat)
  | records (listed after newest : Nat) (records : List FrameRecord)
  | urgent (number : Nat) (state : JobState) (bands : Nat) (ref : Option ProfileRef) (reprofiled : Bool)
  | unended (count : Nat)
  | power (state : Power) (changed : Bool)
  deriving DecidableEq, Repr

/-- A response frame: kind and tag of its envelope, the outcome, and the fields of its body (R168, R177). -/
structure Response where
  kind : Byte
  tag : Byte
  code : Code
  answer : Answer
  deriving DecidableEq, Repr

/-- The link states (R165). -/
inductive Link where
  | idle | inProgress | responseWaiting | reset
  deriving DecidableEq, Repr

/-- A port record (R165). `request` is kind and tag of the request in progress. Bit n of `mask` masks the notice kind with
code n + 1 (R172). -/
structure PortRec where
  link : Link
  request : Option (Byte × Byte)
  response : Option Response
  notices : List Notice
  mask : BitVec 5
  deriving DecidableEq, Repr

structure Ports where
  body : PortRec
  mount : PortRec
  transmitter : PortRec
  deriving DecidableEq, Repr

/-- What a port sent to its master in a transaction: in a read transaction a response frame or an empty frame, as far as the
transaction's extent goes, or 0x00 bytes in RESET (R169); 0x00 bytes in a write transaction (R166); and bytes that the spec does
not give in a transaction with another opening byte. -/
inductive Sent where
  | response (frame : Response) (extent : ReadExtent)
  | emptyFrame (extent : ReadExtent)
  | zeros
  | notGiven
  deriving DecidableEq, Repr

/-- What each port sent to its master in its last transaction: the model's own record of that output (log 11). -/
structure Wire where
  body : Option Sent
  mount : Option Sent
  transmitter : Option Sent
  deriving DecidableEq, Repr

/-! ### The whole machine -/

/-- Frame memory in canonical form: strictly rising addresses, no byte equal to what an unlisted address reads as. -/
abbrev Memory := List Host.Cell

/-- The state of the ZL460, of frame memory, and of the queue of waiting commands. -/
structure State where
  pending : List Instr
  timebase : Stamp
  power : Power
  resetCtl : ResetCtl
  store : Store
  edits : Edits
  tracker : Tracker
  exposure : ExposureUnit
  jobs : JobManager
  engine : Engine
  memPort : MemPort
  records : List FrameRecord
  ports : Ports
  frameMem : Memory
  wire : Wire
  freeCount : Nat
  deriving DecidableEq, Repr

/-- Why the machine stops with a fault. No run from reset reaches either; both are safe. -/
inductive Fault where
  /-- Raised by BAND_BOUNDARY and BUS_ERROR when the engine's context names no present job entry, which R120 rules out. Safe. -/
  | contextWithoutJob
  /-- Raised by BAND_BOUNDARY and BUS_ERROR when the job's areas reach beyond the 32-bit address space of frame memory, which
  the checks of R110 and R140 rule out. Safe. -/
  | transferOutsideAddressSpace
  deriving DecidableEq, Repr

/-- Why a command has no meaning. -/
inductive Refusal where
  /-- Raised by exec's arm of a command that has no meaning yet. Safe. -/
  | notModelled (mnemonic : String)
  /-- Raised by UNKNOWN_KIND, INVALID_OPENING_BYTE and FRAME_ERROR when the operands are not those of the row's event: the
  kind names a request, the opening byte opens a transaction, or the frame passes its envelope check (log 10). Safe. -/
  | notThisCommand
  deriving DecidableEq, Repr

/-! ### Reset values -/

/-- R1, R22: EMPTY, no version, last issued number 0. -/
def Slot.empty : Slot := { lastIssued := 0, live := none, staging := none, retired := [] }

/-- R97: the unconfigured configuration. -/
def Geometry.unconfigured : Geometry :=
  { format := .rgb24, srcWidth := 0, srcHeight := 0, outWidth := 0, outHeight := 0, border := .edge,
    fill := { red := 0, green := 0, blue := 0 }, policy := .pass, crop := .profile }

/-- R97: a stream after reset. -/
def Stream.unconfigured : Stream := { state := .halted, config := Geometry.unconfigured }

/-- R165, R176: a port at the end of a reset. -/
def PortRec.fresh : PortRec := { link := .idle, request := none, response := none, notices := [], mask := 0 }

/-- The machine right after a reset of the part (log 1): every block at the reset values of its chapter, every port IDLE, the
Timebase 0 and the first wake running with wake end 2000 (R176, R187). -/
def State.reset : State where
  pending := []
  timebase := 0
  power := .waking 2000
  resetCtl := { input := false, internal := 0 }
  store := { slots := Vector.replicate 32 Slot.empty, used := 0 }
  edits := { body := none, transmitter := none }
  tracker := { lens := none, attachCount := 0, history := [], holdLimit := 8 }
  exposure := { log := [], nextSeq := 1, exps := .low, expe := .low }
  jobs := { table := [], nextJob := 1, still := Stream.unconfigured, preview := Stream.unconfigured }
  engine := { now := .idle, shadow := none }
  memPort := { window := none, grant := .withdrawn, pendingWithdrawal := false, pauseLimit := 250, pauseTimer := none }
  records := []
  ports := { body := PortRec.fresh, mount := PortRec.fresh, transmitter := PortRec.fresh }
  frameMem := []
  wire := { body := none, mount := none, transmitter := none }
  freeCount := 0

end Sys2Proof.Machine
end

