-- ==== Sys2Proof/Config.lean ====
section
/-! DEFINITION. The free values: what the spec leaves open, as constants with no body, so that no proof can see a value. -/

namespace Sys2Proof

/-- In which order expiries that fall on the same microsecond are taken (R181: either order); read at `freeCount` (log 3). -/
opaque Config.dueOrder : Nat → Nat

/-- How many bytes of the band in progress have been written when a reset stops it (R137); read at `freeCount` (log 15). -/
opaque Config.resetProgress : Nat → Nat

/-- Where between two reports the lens stood, when their stamps lie so far apart that their difference modulo 2^32 no longer
tells (R45, R71); applied to the before stamp, the midpoint and the after stamp (log 18). -/
opaque Config.agedBlend : Stamp → Stamp → Stamp → Nat

/-- The bytes of an answer whose layout the spec does not state (R177; log 11). A body takes what fits of them. -/
opaque Config.answerLayout : Machine.Answer → List Byte

end Sys2Proof
end

