-- ==== Sys2Proof/Machine/Ops.lean ====
section
/-! DEFINITION. The shared operations: comparing Timebase values, updating one block of the state, the three port records and
their notice lists, taking a request on a port, and the bytes of frame memory. -/

namespace Sys2Proof.Machine

/-- The answer of a meaning. -/
abbrev Result := Host.Outcome State Fault Refusal

/-! ### Timebase values (R180, R181) -/

/-- R181: `a` is later than `b`: the difference modulo 2^32 is from 1 to 2^31 - 1. -/
def later (a b : Stamp) : Bool := decide (1 ≤ (a - b).toNat) && decide ((a - b).toNat < 2 ^ 31)

/-- R181: `a` is earlier than `b`: the difference modulo 2^32 is from 2^31. -/
def earlier (a b : Stamp) : Bool := decide (2 ^ 31 ≤ (a - b).toNat)

/-- The Timebase at `now` has reached `expiry`: it is not earlier than it (R181). -/
def reached (now expiry : Stamp) : Bool := !earlier now expiry

/-- A start value plus an interval in microseconds, modulo 2^32 (R181). -/
def stampPlus (t : Stamp) (us : Nat) : Stamp := t + BitVec.ofNat 32 us

/-- A start value less an interval in microseconds, modulo 2^32 (R50). -/
def stampMinus (t : Stamp) (us : Nat) : Stamp := t - BitVec.ofNat 32 us

/-- The successor of a number from 1 to 65535, with 65535 followed by 1 (R3, R65, R107). -/
def succ65535 (n : Nat) : Nat := if 65535 ≤ n then 1 else n + 1

/-! ### Updates of one block of the state -/

def State.withPending (s : State) (x : List Instr) : State := { s with pending := x }
def State.withTimebase (s : State) (x : Stamp) : State := { s with timebase := x }
def State.withPower (s : State) (x : Power) : State := { s with power := x }
def State.withResetCtl (s : State) (x : ResetCtl) : State := { s with resetCtl := x }
def State.withStore (s : State) (x : Store) : State := { s with store := x }
def State.withEdits (s : State) (x : Edits) : State := { s with edits := x }
def State.withTracker (s : State) (x : Tracker) : State := { s with tracker := x }
def State.withExposure (s : State) (x : ExposureUnit) : State := { s with exposure := x }
def State.withJobs (s : State) (x : JobManager) : State := { s with jobs := x }
def State.withEngine (s : State) (x : Engine) : State := { s with engine := x }
def State.withMemPort (s : State) (x : MemPort) : State := { s with memPort := x }
def State.withRecords (s : State) (x : List FrameRecord) : State := { s with records := x }
def State.withPorts (s : State) (x : Ports) : State := { s with ports := x }
def State.withFrameMem (s : State) (x : Memory) : State := { s with frameMem := x }
def State.withWire (s : State) (x : Wire) : State := { s with wire := x }
def State.withFreeCount (s : State) (x : Nat) : State := { s with freeCount := x }

/-! ### Port records and notices (R165, R171) -/

def Ports.get (x : Ports) : Port → PortRec
  | .body => x.body
  | .mount => x.mount
  | .transmitter => x.transmitter

def Ports.set (x : Ports) (p : Port) (r : PortRec) : Ports :=
  match p with
  | .body => { x with body := r }
  | .mount => { x with mount := r }
  | .transmitter => { x with transmitter := r }

def State.port (s : State) (p : Port) : PortRec := s.ports.get p

def State.setPort (s : State) (p : Port) (r : PortRec) : State := s.withPorts (s.ports.set p r)

/-- R171, R172: the mask bit of a notice's kind. -/
def Notice.kindBit : Notice → Nat
  | .jobEnded _ _ _ _ => 0
  | .lensChanged => 1
  | .profileChanged _ => 2
  | .recordAdded _ => 3
  | .protocolError _ => 4

/-- R165: READY is high in IDLE alone. -/
def PortRec.ready (r : PortRec) : Bool := decide (r.link = .idle)

/-- R165: ATTN is high while a response waits or an unmasked notice is listed, and low in RESET. -/
def PortRec.attn (r : PortRec) : Bool :=
  decide (r.link ≠ .reset) &&
    (decide (r.link = .responseWaiting) || r.notices.any fun n => !r.mask.getLsbD n.kindBit)

/-- R171: what a listed notice of a coalesced kind becomes when the kind is raised again; none for different kinds and for
JOB_ENDED, which is not coalesced. -/
def coalesce : Notice → Notice → Option Notice
  | .lensChanged, .lensChanged => some .lensChanged
  | .profileChanged listed, .profileChanged new => some (.profileChanged (listed ||| new))
  | .recordAdded _, .recordAdded new => some (.recordAdded new)
  | .protocolError listed, .protocolError new => some (.protocolError (min 65535 (listed + new)))
  | _, _ => none

/-- R171: a notice joins the end of the list, or updates the listed notice of its coalesced kind where it stands. -/
def raiseNotice (new : Notice) : List Notice → List Notice
  | [] => [new]
  | listed :: rest =>
    match coalesce listed new with
    | some merged => merged :: rest
    | none => listed :: raiseNotice new rest

def State.raise (s : State) (p : Port) (n : Notice) : State :=
  s.setPort p { s.port p with notices := raiseNotice n (s.port p).notices }

/-- R56: LENS_CHANGED on all three ports. -/
def State.raiseLensChanged (s : State) : State :=
  ((s.raise .body .lensChanged).raise .mount .lensChanged).raise .transmitter .lensChanged

/-- R16: PROFILE_CHANGED on the Body and Transmitter Ports, naming one slot. -/
def State.raiseProfileChanged (s : State) (slot : Fin 32) : State :=
  let n := Notice.profileChanged (BitVec.twoPow 32 slot.val)
  (s.raise .body n).raise .transmitter n

/-- R166: PROTOCOL_ERROR, once for a transaction that is discarded or whose opening byte is not one of the two. -/
def State.raiseProtocolError (s : State) (p : Port) : State := s.raise p (.protocolError 1)

/-! ### What a port sends (R166, R169) -/

def Wire.set (w : Wire) (p : Port) (x : Sent) : Wire :=
  match p with
  | .body => { w with body := some x }
  | .mount => { w with mount := some x }
  | .transmitter => { w with transmitter := some x }

/-- The port's output in a transaction is recorded (log 11). -/
def State.send (s : State) (p : Port) (x : Sent) : State := s.withWire (s.wire.set p x)

/-! ### Requests on a port (R168, R170) -/

/-- The kind number of a request (R170). -/
def ReqKind.number : ReqKind → Nat
  | .queryTime => 1 | .fetchNotices => 2 | .setNoticeMask => 3 | .resetPort => 4 | .queryLens => 5
  | .resetPart => 6 | .lensAttached => 7 | .lensDetached => 8 | .lensState => 9 | .setLensTiming => 10
  | .openEdit => 11 | .writeNodes => 12 | .writeChroma => 13 | .writeCrop => 14 | .commitEdit => 15 | .abortEdit => 16
  | .readProfile => 17 | .readNode => 18 | .queryStore => 19 | .deleteProfile => 20 | .queryExposure => 21
  | .configureStream => 22 | .startStream => 23 | .stopStream => 24 | .queryStream => 25 | .submitFrame => 26
  | .queryJob => 27 | .cancelJob => 28 | .setWindow => 29 | .grantMemory => 30 | .withdrawMemory => 31
  | .setPauseLimit => 32 | .queryMemory => 33 | .readRecords => 34 | .submitUrgent => 35 | .standby => 36 | .wake => 37

def ReqKind.byte (k : ReqKind) : Byte := BitVec.ofNat 8 k.number

/-- R170: the ports a request kind is allowed on. -/
def ReqKind.permitted (k : ReqKind) (p : Port) : Bool :=
  match k with
  | .queryTime | .fetchNotices | .setNoticeMask | .resetPort | .queryLens => true
  | .lensAttached | .lensDetached | .lensState => decide (p = .mount)
  | .openEdit | .writeNodes | .writeChroma | .writeCrop | .commitEdit | .abortEdit | .readProfile | .readNode
  | .queryStore | .deleteProfile | .queryJob | .cancelJob => decide (p ≠ .mount)
  | .readRecords | .submitUrgent => decide (p = .transmitter)
  | .resetPart | .setLensTiming | .queryExposure | .configureStream | .startStream | .stopStream | .queryStream
  | .submitFrame | .setWindow | .grantMemory | .withdrawMemory | .setPauseLimit | .queryMemory | .standby | .wake =>
    decide (p = .body)

/-- The outcome of a request and the fields its response carries. -/
structure Reply where
  code : Code
  answer : Answer
  deriving DecidableEq, Repr

/-- What the owner of a request makes of it: the state after it, and the reply, absent while the owner holds the response. -/
structure Taken where
  state : State
  reply : Option Reply
  deriving DecidableEq, Repr

def refuse (s : State) (c : Code) : Taken := { state := s, reply := some { code := c, answer := .none } }
def refuseWith (s : State) (c : Code) (a : Answer) : Taken := { state := s, reply := some { code := c, answer := a } }
def answerOk (s : State) (a : Answer) : Taken := { state := s, reply := some { code := .ok, answer := a } }

/-- R168: a response is placed as the port's pending response, and the port becomes RESPONSE_WAITING. -/
def State.place (s : State) (p : Port) (r : Response) : State :=
  s.setPort p { s.port p with link := .responseWaiting, request := none, response := some r }

/-- R167: when the frame ends the port leaves IDLE for IN_PROGRESS with its kind and tag. -/
def State.startRequest (s : State) (p : Port) (kind tag : Byte) : State :=
  s.setPort p { s.port p with link := .inProgress, request := some (kind, tag) }

/-- R168: the owner's reply is placed as the response; a held response leaves the port IN_PROGRESS. -/
def Taken.finish (t : Taken) (p : Port) (kind tag : Byte) : State :=
  match t.reply with
  | some r => t.state.place p { kind := kind, tag := tag, code := r.code, answer := r.answer }
  | none => t.state

/-- A transaction the port ignores: it is early (R176; log 30), or the port is in RESET (R166). -/
def State.ignores (s : State) (p : Port) (early : Bool) : Bool := early || decide ((s.port p).link = .reset)

/-- R166: a write transaction whose frame is not taken: ignored, or discarded with PROTOCOL_ERROR, once for the transaction. -/
def State.discard (s : State) (p : Port) (early : Bool) : State := if s.ignores p early then s else s.raiseProtocolError p

/-- A write transaction that holds a frame (R166 to R168, R176): on an IDLE port, when it is not early, `owner` takes the frame and
its reply is placed as the response; otherwise it is ignored or discarded. The port sends 0x00 bytes throughout. -/
def takeFrame (p : Port) (early : Bool) (kind tag : Byte) (owner : State → Taken) (s : State) : State :=
  State.send
    (if (s.port p).link = .idle ∧ early = false then (owner (s.startRequest p kind tag)).finish p kind tag
      else s.discard p early)
    p .zeros

/-- R168: a request is checked for its rights and its length, in this order, before its owner takes it. -/
def checkedOwner (k : ReqKind) (h : Hdr) (owner : State → Taken) (s : State) : Taken :=
  if k.permitted h.port then
    if h.badLength then refuse s .badLength else owner s
  else refuse s .notPermitted

/-- A request frame of kind `k` whose envelope is good: the whole of R166 to R168 around the owner's part. -/
def request (k : ReqKind) (h : Hdr) (owner : State → Taken) (s : State) : Result :=
  .next (takeFrame h.port h.early k.byte h.tag (checkedOwner k h owner) s)

/-! ### Frame memory bytes -/

/-- What a byte that nothing has written reads as (DESIGN CHOICE; log 12). -/
def unlistedByte : Byte := 0

/-- One past the last address of frame memory (R140). -/
def addressSpace : Nat := 2 ^ 32

def Memory.read : Memory → Nat → Byte
  | [], _ => unlistedByte
  | (c, d) :: rest, a => if a = c then d else Memory.read rest a

/-- Writing keeps the canonical form: the value an unlisted address reads as removes the entry. -/
def Memory.write : Memory → Nat → Byte → Memory
  | [], a, b => if b = unlistedByte then [] else [(a, b)]
  | (c, d) :: rest, a, b =>
    if a < c then (if b = unlistedByte then (c, d) :: rest else (a, b) :: (c, d) :: rest)
    else if a = c then (if b = unlistedByte then rest else (a, b) :: rest)
    else (c, d) :: Memory.write rest a b

/-- Writes in order, each an address and a byte. -/
def Memory.writeAll (m : Memory) (ws : List Host.Cell) : Memory := ws.foldl (fun m w => m.write w.1 w.2) m

/-- Every address of the list lies above `a`, and no byte equals what an unlisted address reads as. -/
def Memory.wfAbove : Nat → Memory → Bool
  | _, [] => true
  | a, (c, d) :: rest => decide (a < c) && decide (d ≠ unlistedByte) && Memory.wfAbove c rest

/-- The canonical form: addresses strictly rising, no byte equal to what an unlisted address reads as. -/
def Memory.wf : Memory → Bool
  | [] => true
  | (c, d) :: rest => decide (d ≠ unlistedByte) && Memory.wfAbove c rest

end Sys2Proof.Machine
end

