-- ==== Sys2Proof/Machine/Flags.lean ====
section
/-! DEFINITION. State flags of exposures (R64, R70 to R76, R161) and result flags of jobs (R108). -/

namespace Sys2Proof.Machine

/-- No state flag. -/
def StateFlags.empty : StateFlags := { held := false, nearest := false, detached := false, noState := false, unbound := false }

/-- No result flag. -/
def ResultFlags.empty : ResultFlags :=
  { clamped := false, held := false, nearest := false, detached := false, spanLimited := false, reprofiled := false,
    uncalibrated := false }

/-- R108: HELD, NEAREST and DETACHED join when the job copies the state flags. -/
def ResultFlags.joinState (r : ResultFlags) (f : StateFlags) : ResultFlags :=
  { r with held := r.held || f.held, nearest := r.nearest || f.nearest, detached := r.detached || f.detached }

def ResultFlags.joinClamped (r : ResultFlags) (c : Bool) : ResultFlags := { r with clamped := r.clamped || c }

def ResultFlags.joinUncalibrated (r : ResultFlags) (u : Bool) : ResultFlags := { r with uncalibrated := r.uncalibrated || u }

def ResultFlags.joinSpanLimited (r : ResultFlags) (l : Bool) : ResultFlags := { r with spanLimited := r.spanLimited || l }

def ResultFlags.joinReprofiled (r : ResultFlags) (p : Bool) : ResultFlags := { r with reprofiled := r.reprofiled || p }

/-- R161: the state flags of an urgent job, formed from the record and from whether a profile was chosen. -/
def urgentStateFlags (r : FrameRecord) (chosen : Option ProfileRef) : StateFlags :=
  { held := r.flags.held
    nearest := r.flags.nearest
    detached := r.flags.detached
    noState := r.lens.isNone && !r.flags.detached
    unbound := r.lens.isSome && chosen.isNone }

/-- R179: the result flags byte. -/
def ResultFlags.byte (r : ResultFlags) : Byte :=
  BitVec.ofNat 8 (r.clamped.toNat + 2 * r.held.toNat + 4 * r.nearest.toNat + 8 * r.detached.toNat +
    16 * r.spanLimited.toNat + 32 * r.reprofiled.toNat + 64 * r.uncalibrated.toNat)

end Sys2Proof.Machine
end

