-- ==== Sys2Proof/Machine/Operands.lean ====
section
/-! DEFINITION. Ranges of the fields of requests, the order of geometry nodes, stream configurations, and the window checks of
a descriptor. -/

namespace Sys2Proof.Machine

def inRange (lo n hi : Nat) : Bool := decide (lo ≤ n) && decide (n ≤ hi)

def inRangeInt (lo n hi : Int) : Bool := decide (lo ≤ n) && decide (n ≤ hi)

/-- R17, R26: the slot a request names; none above 31. -/
def slotOf (n : Nat) : Option (Fin 32) := if h : n < 32 then some ⟨n, h⟩ else none

/-- R4: a lens key's codes are in range. -/
def keyInRange (k : LensKey) : Bool := inRange 1 k.model 65535 && decide (k.converter ≤ 255)

/-- R5: a centre offset is from -512 to +512 steps of 1/4096. -/
def offsetInRange (c : Int) : Bool := inRangeInt (-512) c 512

/-- R6: the ranges of a node's fields. -/
def nodeInRange (n : NodeRecord) : Bool :=
  inRange 10 n.nominal 20000 && decide (n.focus ≤ 4095) && inRange 10 n.trueFocal 20000 &&
    inRangeInt (-2097152) n.k1 2097152 && inRangeInt (-2097152) n.k2 2097152 && inRangeInt (-2097152) n.k3 2097152

/-- R8: the range of the four terms of a chroma record. -/
def termsInRange (c : ChromaTerms) : Bool :=
  inRangeInt (-262144) c.redLinear 262144 && inRangeInt (-262144) c.redCubic 262144 &&
    inRangeInt (-262144) c.blueLinear 262144 && inRangeInt (-262144) c.blueCubic 262144

/-- R9, R34: a crop scale is from 8192 to 32768 steps of 1/16384. -/
def cropInRange (scale : Nat) : Bool := inRange 8192 scale 32768

/-- R6: node `b` stands strictly after node `a`, by (nominal focal, focus code). -/
def standsAfter (a b : NodeRecord) : Bool :=
  decide (a.nominal < b.nominal) || (decide (a.nominal = b.nominal) && decide (a.focus < b.focus))

/-- R30, check 2: the position, from 1, of the first node that does not stand after the one before it; `prev` is the last
staging node. -/
def orderFault (prev : Option NodeRecord) (at_ : Nat) : List NodeRecord → Option Nat
  | [] => none
  | n :: rest =>
    match prev with
    | none => orderFault (some n) (at_ + 1) rest
    | some p => if standsAfter p n then orderFault (some n) (at_ + 1) rest else some at_

/-- R32, check 2: the position of the first chroma record whose index does not continue the sequence or is not below the
staging node count. -/
def indexFault (expected nodeCount : Nat) (at_ : Nat) : List ChromaRecord → Option Nat
  | [] => none
  | c :: rest =>
    if c.index = expected ∧ c.index < nodeCount then indexFault (expected + 1) nodeCount (at_ + 1) rest else some at_

/-- R29: the position, from 1, of the first item that fails a check. -/
def firstFailing {α : Type} (ok : α → Bool) (at_ : Nat) : List α → Option Nat
  | [] => none
  | x :: rest => if ok x then firstFailing ok (at_ + 1) rest else some at_

/-- R26, R177: the carry set of OPEN EDIT, one bit per member of {GEOMETRY, CHROMA, CROP}; none when another bit is set, since that
names another member. The width of the field is not stated: the model takes it as one byte (DESIGN CHOICE, log 34). -/
def carryOf (bits : Byte) : Option Sections :=
  if bits.toNat < 8 then
    some { geometry := bits.getLsbD 0, chroma := bits.getLsbD 1, crop := bits.getLsbD 2 }
  else none

/-- R172: the mask of SET NOTICE MASK; none when any of bits 5 to 7 is set. -/
def maskOf (bits : Byte) : Option (BitVec 5) := if bits.toNat < 32 then some (bits.setWidth 5) else none

/-- R110: bytes a pixel takes. -/
def bytesPerPixel : PixelFormat → Nat
  | .rgb24 => 3
  | .rgb48 => 6

/-- The largest sample of a format (R93, R97). -/
def maxSample : PixelFormat → Nat
  | .rgb24 => 255
  | .rgb48 => 65535

def widthInRange (w : Nat) : Bool := inRange 64 w 8192
def heightInRange (h : Nat) : Bool := inRange 16 h 6144

/-- R97, R159: a fill colour's samples lie within the range of the pixel format. -/
def fillInRange (f : PixelFormat) (c : Rgb) : Bool :=
  decide (c.red ≤ maxSample f) && decide (c.green ≤ maxSample f) && decide (c.blue ≤ maxSample f)

/-- R97, R99: the first field of a configuration that fails, in the order of the table; none for a valid configuration. -/
def Geometry.failing (g : Geometry) : Option ConfigField :=
  if !widthInRange g.srcWidth then some .srcWidth
  else if !heightInRange g.srcHeight then some .srcHeight
  else if !widthInRange g.outWidth then some .outWidth
  else if !heightInRange g.outHeight then some .outHeight
  else match g.border with
    | .edge => none
    | .fill => if fillInRange g.format g.fill then none else some .fillColour

/-- R97: the configuration is valid. -/
def Geometry.valid (g : Geometry) : Bool := decide (g.failing = none)

/-- R99: the configuration CONFIGURE STREAM gives; none when an enumerated field names no value. -/
def configOf (a : StreamArgs) : Option Geometry :=
  match a.format, a.border, a.policy, a.crop with
  | .is f, .is b, .is p, .is c =>
    some { format := f, srcWidth := a.srcWidth, srcHeight := a.srcHeight, outWidth := a.outWidth,
           outHeight := a.outHeight, border := b, fill := a.fill, policy := p, crop := c }
  | _, _, _, _ => none

/-- R159, check 1 beside the sequence: the output geometry of SUBMIT URGENT; none when a field is out of range. The source
sizes are those of the frame record. -/
def urgentGeometry (a : UrgentArgs) (srcWidth srcHeight : Nat) : Option Geometry :=
  match a.format, a.border, a.fallback, a.crop with
  | .is f, .is b, .is p, .is c =>
    if widthInRange a.outWidth && heightInRange a.outHeight && (decide (b = .edge) || fillInRange f a.fill) then
      some { format := f, srcWidth := srcWidth, srcHeight := srcHeight, outWidth := a.outWidth,
             outHeight := a.outHeight, border := b, fill := a.fill, policy := p, crop := c }
    else none
  | _, _, _, _ => none

/-- R110: the first failing check of one descriptor; none when it passes. -/
def windowFault (w : Option Window) (d : Descriptor) (width height : Nat) (f : PixelFormat) : Option WindowCheck :=
  if ¬ (d.address % 64 = 0 ∧ d.pitch % 64 = 0) then some .alignment
  else if d.pitch < width * bytesPerPixel f then some .pitch
  else match w with
    | none => some .area
    | some w =>
      if w.base ≤ d.address ∧ d.address + d.pitch * height ≤ w.base + w.size then none else some .area

/-- R110: the source descriptor is checked before the destination descriptor. -/
def descriptorFault (w : Option Window) (source dest : Descriptor) (g : Geometry) :
    Option (WhichDescriptor × WindowCheck) :=
  match windowFault w source g.srcWidth g.srcHeight g.format with
  | some c => some (.source, c)
  | none =>
    match windowFault w dest g.outWidth g.outHeight g.format with
    | some c => some (.destination, c)
    | none => none

/-- R105, R126: the number of bands, the output height divided by 16 and rounded up. -/
def bandsOf (outHeight : Nat) : Nat := (outHeight + 15) / 16

end Sys2Proof.Machine
end

