-- ==== Sys2Proof/Machine/Evaluate.lean ====
section
/-! DEFINITION. Evaluating a version at a lens state (R81 to R87): focal rows, interpolation in focus and in focal, one rounding
at the end, and the working set. Weights and values are exact fractions until that rounding. -/

namespace Sys2Proof.Machine

/-- An exact fraction `num / den` with `den` above 0. -/
structure Frac where
  num : Int
  den : Nat
  deriving DecidableEq, Repr

/-- `a + (b - a) * w`, exactly (R83, R84). -/
def Frac.blend (a b w : Frac) : Frac where
  num := a.num * b.den * w.den + (b.num * a.den - a.num * b.den) * w.num
  den := a.den * b.den * w.den

def Frac.ofInt (n : Int) : Frac := { num := n, den := 1 }

/-- R84: rounding to the nearest whole step, a value exactly halfway away from zero. -/
def roundAway (f : Frac) : Int :=
  let magnitude : Int := ((2 * f.num.natAbs + f.den) / (2 * f.den) : Nat)
  if f.num < 0 then -magnitude else magnitude

/-- The place of a value among ascending key values: the greatest at or below it and the least at or above it, by position. -/
structure Bracket where
  below : Option (Nat × Nat)
  above : Option (Nat × Nat)
  deriving DecidableEq, Repr

/-- `keys` pairs each key value, ascending, with its position. -/
def bracket (keys : List (Nat × Nat)) (z : Nat) : Bracket where
  below := (keys.filter fun k => decide (k.1 ≤ z)).getLast?
  above := keys.find? fun k => decide (z ≤ k.1)

/-- Two positions and the weight of the second, and whether the value was clamped at an end. -/
structure Pick where
  lo : Nat
  hi : Nat
  weight : Frac
  clamped : Bool
  deriving DecidableEq, Repr

/-- One position alone. -/
def Pick.only (i : Nat) (clamped : Bool) : Pick :=
  { lo := i, hi := i, weight := { num := 0, den := 1 }, clamped := clamped }

/-- R82 and R83 alike: a single entry is used alone without clamping; an equal one alone; beyond an end, the end entry with
clamping; otherwise the two around it, weighted. `keys` is ascending without repeats. -/
def pickAmong (keys : List (Nat × Nat)) (z : Nat) : Pick :=
  match keys with
  | [] => Pick.only 0 false
  | [k] => Pick.only k.2 false
  | k :: k' :: rest =>
    let b := bracket (k :: k' :: rest) z
    match b.below, b.above with
    | some lo, some hi =>
      if lo.1 = hi.1 then Pick.only lo.2 false
      else { lo := lo.2, hi := hi.2, weight := { num := (z - lo.1 : Nat), den := hi.1 - lo.1 }, clamped := false }
    | none, some hi => Pick.only hi.2 true
    | some lo, none => Pick.only lo.2 true
    | none, none => Pick.only k.2 false

/-- R7: the nominal focals of the focal rows, ascending; a row's position is its nominal focal. -/
def rowKeys : List NodeRecord → List (Nat × Nat)
  | [] => []
  | [n] => [(n.nominal, n.nominal)]
  | n :: n' :: rest => if n.nominal = n'.nominal then rowKeys (n' :: rest) else (n.nominal, n.nominal) :: rowKeys (n' :: rest)

/-- R7: the nodes of the row of one nominal focal, as focus code and index in the node list. -/
def rowNodes (nodes : List NodeRecord) (nominal : Nat) : List (Nat × Nat) :=
  (nodes.zipIdx.filter fun p => decide (p.1.nominal = nominal)).map fun p => (p.1.focus, p.2)

/-- Which nodes, with which weights, give the value at a lens state (R82, R83): a pick of nodes in each of the two rows, the
row weight, and CLAMPED (R84). The same weights serve every field. -/
structure Blend where
  lower : Pick
  upper : Pick
  weight : Frac
  clamped : Bool
  deriving DecidableEq, Repr

def blendAt (nodes : List NodeRecord) (focal focus : Nat) : Blend :=
  let rows := pickAmong (rowKeys nodes) focal
  let lower := pickAmong (rowNodes nodes rows.lo) focus
  let upper := pickAmong (rowNodes nodes rows.hi) focus
  { lower := lower, upper := upper, weight := rows.weight, clamped := rows.clamped || lower.clamped || upper.clamped }

/-- R83: a row's value of one field, exact. -/
def Pick.value (p : Pick) (field : Nat → Int) : Frac := (Frac.ofInt (field p.lo)).blend (Frac.ofInt (field p.hi)) p.weight

/-- R84: the value of one field between the rows, exact and then rounded once. -/
def Blend.value (b : Blend) (field : Nat → Int) : Int :=
  roundAway ((b.lower.value field).blend (b.upper.value field) b.weight)

def nodeField (nodes : List NodeRecord) (f : NodeRecord → Int) (i : Nat) : Int :=
  match nodes[i]? with
  | some n => f n
  | none => 0

def chromaField (chroma : List ChromaTerms) (f : ChromaTerms → Int) (i : Nat) : Int :=
  match chroma[i]? with
  | some c => f c
  | none => 0

def zeroTerms : ChromaTerms := { redLinear := 0, redCubic := 0, blueLinear := 0, blueCubic := 0 }

/-- R85: the four colour terms, zero without a chroma section. -/
def evaluateChroma (b : Blend) : Option (List ChromaTerms) → ChromaTerms
  | none => zeroTerms
  | some c =>
    { redLinear := b.value (chromaField c ChromaTerms.redLinear)
      redCubic := b.value (chromaField c ChromaTerms.redCubic)
      blueLinear := b.value (chromaField c ChromaTerms.blueLinear)
      blueCubic := b.value (chromaField c ChromaTerms.blueCubic) }

/-- R58, R84: the true focal of a version at a lens state, with CLAMPED. -/
def trueFocalAt (nodes : List NodeRecord) (focal focus : Nat) : Nat × Bool :=
  let b := blendAt nodes focal focus
  ((b.value (nodeField nodes fun n => n.trueFocal)).toNat, b.clamped)

/-- R86: the scale 1.0, in steps of 1/16384. -/
def unitScale : Nat := 16384

/-- R86: the scale under a crop mode. -/
def scaleFor (crop : Option Nat) : CropMode → Nat
  | .none => unitScale
  | .profile => crop.getD unitScale

/-- R81 to R86: the working set of a version at a lens state under a crop mode. -/
def workingSetAt (v : Version) (focal focus : Nat) (mode : CropMode) : WorkingSet :=
  let b := blendAt v.nodes focal focus
  { k1 := b.value (nodeField v.nodes NodeRecord.k1)
    k2 := b.value (nodeField v.nodes NodeRecord.k2)
    k3 := b.value (nodeField v.nodes NodeRecord.k3)
    chroma := evaluateChroma b v.chroma
    cx := v.cx
    cy := v.cy
    scale := scaleFor v.crop mode }

/-- R87: the identity working set. -/
def WorkingSet.identity : WorkingSet :=
  { k1 := 0, k2 := 0, k3 := 0, chroma := zeroTerms, cx := 0, cy := 0, scale := unitScale }

end Sys2Proof.Machine
end

