-- ==== Sys2Proof/Machine/Store.lean ====
section
/-! DEFINITION. The Profile Store: block costs, version numbers, lookup by key, pins, retiring and freeing (R1 to R16). -/

namespace Sys2Proof.Machine

/-- R12: the store holds 1536 blocks. -/
def storeBlocks : Nat := 1536

def chromaCount (c : Option (List ChromaTerms)) : Nat :=
  match c with
  | some l => l.length
  | none => 0

/-- R11: one header block, one per node, one per chroma record. -/
def blockCost (nodes : List NodeRecord) (chroma : Option (List ChromaTerms)) : Nat := 1 + nodes.length + chromaCount chroma

def Version.cost (v : Version) : Nat := blockCost v.nodes v.chroma
def Staging.cost (v : Staging) : Nat := blockCost v.nodes v.chroma

def totalCost (vs : List Version) : Nat := (vs.map Version.cost).sum

/-- R12: the block costs of all versions present in a slot. -/
def Slot.blocks (x : Slot) : Nat :=
  (match x.live with | some v => v.cost | none => 0) +
  (match x.staging with | some v => v.cost | none => 0) + totalCost x.retired

/-- R12: the free count. -/
def Store.free (st : Store) : Nat := storeBlocks - st.used

def Store.slot (st : Store) (i : Fin 32) : Slot := st.slots[i]

def Store.setSlot (st : Store) (i : Fin 32) (x : Slot) : Store := { st with slots := st.slots.set i x }

/-- The slots in ascending order. -/
def allSlots : List (Fin 32) := List.finRange 32

/-- R12, law 1: the sum of the block costs of all versions present. -/
def Store.presentBlocks (st : Store) : Nat := (allSlots.map fun i => (st.slot i).blocks).sum

/-- R20: the number of RETIRED versions in all slots. -/
def Store.retiredCount (st : Store) : Nat := (allSlots.map fun i => (st.slot i).retired.length).sum

/-- R20: the number of STAGING versions. -/
def Store.stagingCount (st : Store) : Nat := (allSlots.filter fun i => (st.slot i).staging.isSome).length

/-- R15: the LIVE slot whose live version's key equals the named key, with that version's number. -/
def Store.lookup (st : Store) (key : LensKey) : Option ProfileRef :=
  allSlots.findSome? fun i =>
    match (st.slot i).live with
    | some v => if v.key = key then some { slot := i, number := v.number } else none
    | none => none

/-- R36: a slot other than `own` whose live version carries the key. -/
def Store.keyHolder (st : Store) (own : Fin 32) (key : LensKey) : Option (Fin 32) :=
  allSlots.find? fun i => decide (i ≠ own) && (match (st.slot i).live with | some v => decide (v.key = key) | none => false)

/-- The LIVE or RETIRED version that a reference names (R2). -/
def Store.find (st : Store) (r : ProfileRef) : Option Version :=
  match (st.slot r.slot).live with
  | some v => if v.number = r.number then some v else (st.slot r.slot).retired.find? (fun v => v.number = r.number)
  | none => (st.slot r.slot).retired.find? (fun v => v.number = r.number)

/-- The numbers that present versions of a slot hold (R3). -/
def Slot.numbers (x : Slot) : List Nat :=
  (match x.live with | some v => [v.number] | none => []) ++ x.retired.map Version.number

/-- R3: the first number, counting upward from `n`, that is not held; `fuel` tries. -/
def freeNumber (held : List Nat) : Nat → Nat → Nat
  | 0, n => n
  | fuel + 1, n => if held.contains n then freeNumber held fuel (succ65535 n) else n

/-- R3: the number the next commit gives. One try more than numbers are held always suffices. -/
def Slot.nextNumber (x : Slot) : Nat := freeNumber x.numbers (x.numbers.length + 1) (succ65535 x.lastIssued)

/-- R13: one pin more on the version of that number. -/
def Version.pinIf (n : Nat) (v : Version) : Version := if v.number = n then { v with pins := v.pins + 1 } else v

/-- R14: one pin fewer on the version of that number. -/
def Version.unpinIf (n : Nat) (v : Version) : Version := if v.number = n then { v with pins := v.pins - 1 } else v

/-- R14: this release is the last pin of a RETIRED version of that number. -/
def Version.lastPin (n : Nat) (v : Version) : Bool := decide (v.number = n) && decide (v.pins ≤ 1)

/-- R13: a pin is taken on a LIVE or RETIRED version. -/
def Store.pin (st : Store) (r : ProfileRef) : Store :=
  let x := st.slot r.slot
  st.setSlot r.slot { x with live := x.live.map (Version.pinIf r.number), retired := x.retired.map (Version.pinIf r.number) }

/-- R14: a pin is released; a RETIRED version whose last pin this was is freed and its block cost leaves the used count. -/
def Store.unpin (st : Store) (r : ProfileRef) : Store :=
  let x := st.slot r.slot
  let freed := x.retired.filter (Version.lastPin r.number)
  let kept := (x.retired.filter (fun v => !v.lastPin r.number)).map (Version.unpinIf r.number)
  { st.setSlot r.slot { x with live := x.live.map (Version.unpinIf r.number), retired := kept } with
    used := st.used - totalCost freed }

/-- R21, R39: a live version leaves service: RETIRED at the end of the retired list when pinned, freed otherwise. -/
def Slot.leaveService (x : Slot) : Slot :=
  match x.live with
  | none => x
  | some v => { x with live := none, retired := if v.pins = 0 then x.retired else x.retired ++ [v] }

/-- R21, R39: the blocks that a live version's leaving service returns. -/
def Slot.leaveBlocks (x : Slot) : Nat :=
  match x.live with
  | none => 0
  | some v => if v.pins = 0 then v.cost else 0

/-! ### The store in the state -/

def State.pin (s : State) (r : Option ProfileRef) : State :=
  match r with
  | some r => s.withStore (s.store.pin r)
  | none => s

def State.unpin (s : State) (r : Option ProfileRef) : State :=
  match r with
  | some r => s.withStore (s.store.unpin r)
  | none => s

/-- R53: the tracker runs its binding against the store as it stands, when a lens is attached. -/
def State.rebind (s : State) : State :=
  match s.tracker.lens with
  | none => s
  | some a => s.withTracker { s.tracker with lens := some { a with bound := s.store.lookup a.key } }

/-- R16: the two hand-offs of a commit or delete: the tracker re-binds and raises LENS_CHANGED if the binding changed (R56),
then PROFILE_CHANGED is raised naming the slot. -/
def State.handOff (s : State) (slot : Fin 32) : State :=
  let t := s.rebind
  (if t.tracker.lens = s.tracker.lens then t else t.raiseLensChanged).raiseProfileChanged slot

/-! ### Edit records (R23) -/

def State.edit (s : State) : Port → Option Edit
  | .body => s.edits.body
  | .transmitter => s.edits.transmitter
  | .mount => none

def State.setEdit (s : State) (p : Port) (e : Option Edit) : State :=
  match p with
  | .body => s.withEdits { s.edits with body := e }
  | .transmitter => s.withEdits { s.edits with transmitter := e }
  | .mount => s

/-- R18, R25: the port that holds an open edit on a slot. -/
def State.editHolder (s : State) (slot : Fin 32) : Option Port :=
  if (match s.edits.body with | some e => decide (e.slot = slot) | none => false) then some .body
  else if (match s.edits.transmitter with | some e => decide (e.slot = slot) | none => false) then some .transmitter
  else none

/-- R41: the blocks an abort frees. -/
def State.stagingCost (s : State) (slot : Fin 32) : Nat :=
  match (s.store.slot slot).staging with
  | some v => v.cost
  | none => 0

/-- R41, R42: the port's open edit is aborted: the staging version is freed and the edit record becomes idle. -/
def State.abortEdit (s : State) (p : Port) : State :=
  match s.edit p with
  | none => s
  | some e =>
    let x := s.store.slot e.slot
    let st := { s.store.setSlot e.slot { x with staging := none } with used := s.store.used - s.stagingCost e.slot }
    (s.withStore st).setEdit p none

end Sys2Proof.Machine
end

