-- ==== Sys2Proof/Machine/Jobs.lean ====
section
/-! DEFINITION. The job table, job numbers, the frame record list, and the one operation by which every job ends (R104 to R108,
R116, R117, R153 to R156). -/

namespace Sys2Proof.Machine

/-! ### Entries -/

def JobState.isEnded : JobState → Bool
  | .ended _ => true
  | .queued | .waiting | .running | .suspended | .paused => false

/-- R98: a job is unended in any state other than ENDED. -/
def Job.unended (j : Job) : Bool := !j.state.isEnded

def State.findJob (s : State) (n : Nat) : Option Job := s.jobs.table.find? fun j => j.number = n

def State.withTable (s : State) (t : List Job) : State := s.withJobs { s.jobs with table := t }

/-- The entry with number `n` is changed by `f`. -/
def State.updateJob (s : State) (n : Nat) (f : Job → Job) : State :=
  s.withTable (s.jobs.table.map fun j => if j.number = n then f j else j)

/-- R117: the entry with number `n` is freed. -/
def State.freeEntry (s : State) (n : Nat) : State := s.withTable (s.jobs.table.filter fun j => decide (j.number ≠ n))

/-- The number of unended entries of both ports. -/
def State.unendedCount (s : State) : Nat := (s.jobs.table.filter Job.unended).length

/-- R109: the number of present entries that are ENDED. -/
def State.endedCount (s : State) : Nat := (s.jobs.table.filter fun j => j.state.isEnded).length

/-- R104: the table has 12 entries, and the Transmitter Port may hold 2 of them. -/
def tableSize : Nat := 12
def transmitterAllowance : Nat := 2

/-- R107: the first number, counting upward from the next job number, not held by a present entry. -/
def State.newJobNumber (s : State) : Nat :=
  freeNumber (0 :: s.jobs.table.map Job.number) (s.jobs.table.length + 2) s.jobs.nextJob

/-! ### Streams -/

/-- R98: the stream a class of job is of. -/
def JobClass.stream : JobClass → Option StreamId
  | .still => some .still
  | .preview => some .preview
  | .urgent => none

def streamClass : StreamId → JobClass
  | .still => .still
  | .preview => .preview

def State.stream (s : State) : StreamId → Stream
  | .still => s.jobs.still
  | .preview => s.jobs.preview

def State.setStream (s : State) (i : StreamId) (x : Stream) : State :=
  match i with
  | .still => s.withJobs { s.jobs with still := x }
  | .preview => s.withJobs { s.jobs with preview := x }

/-- R98: the unended jobs of a stream. -/
def State.unendedOf (s : State) (i : StreamId) : List Job :=
  s.jobs.table.filter fun j => decide (j.cls = streamClass i) && j.unended

def State.streamTo (s : State) (i : StreamId) (x : StreamState) : State := s.setStream i { s.stream i with state := x }

/-- R98, R116 step 5: a DRAINING stream becomes HALTED when none of its jobs is unended. -/
def State.drainHalt (s : State) (i : StreamId) : State :=
  if (s.stream i).state = .draining ∧ s.unendedOf i = [] then s.streamTo i .halted else s

/-! ### Frame records -/

/-- R153: the list holds at most 32 records. -/
def recordSlots : Nat := 32

/-- R155, steps 1 to 3: a record with the same sequence leaves, else the oldest of a full list; the new one joins the end. -/
def joinRecord (r : FrameRecord) (l : List FrameRecord) : List FrameRecord :=
  let others := l.filter fun x => decide (x.seq ≠ r.seq)
  (if recordSlots ≤ others.length then others.drop (others.length - (recordSlots - 1)) else others) ++ [r]

/-- R155, R156: a frame record is added and RECORD_ADDED is raised on the Transmitter Port. -/
def State.addRecord (s : State) (r : FrameRecord) : State :=
  (s.withRecords (joinRecord r s.records)).raise .transmitter (.recordAdded r.seq)

/-- R116 step 3, R154: the frame record of a job that ends with result `r` at Timebase value `now`. -/
def recordOf (j : Job) (r : JobResult) (now : Stamp) : FrameRecord :=
  { seq := j.seq, job := j.number, key := j.key, firmware := j.firmware, lens := j.lens, trueFocal := j.trueFocal,
    ref := j.ref, result := r, flags := j.flags, srcWidth := j.geom.srcWidth, srcHeight := j.geom.srcHeight,
    completed := now }

/-- R116 step 3: the job writes a frame record. -/
def writesRecord (j : Job) (r : JobResult) : Bool :=
  decide (j.cls = .still) && (decide (r = .done) || decide (r = .uncorrected))

/-! ### The end of a job -/

/-- The job of the engine's current context (R120). -/
def EngineState.job : EngineState → Option Nat
  | .idle => none
  | .inBand c => some c.job
  | .holding c => some c.job

/-- R116 step 6, R135, R145: the engine's context of an ended job is emptied, and the pause timer of a paused one stops. The
refill of the engine follows once the event's other effects have been taken (R123; log 19). -/
def State.releaseContext (s : State) (n : Nat) : State :=
  let e := s.engine
  let s := s.withEngine
    { now := if e.now.job = some n then .idle else e.now
      shadow := if e.shadow.map Context.job = some n then none else e.shadow }
  if s.memPort.pauseTimer.map PauseTimer.job = some n then s.withMemPort { s.memPort with pauseTimer := none } else s

/-- R116 step 4: a suppressed entry is freed, any other raises its JOB_ENDED notice (R117). -/
def State.announceEnd (s : State) (j : Job) (r : JobResult) : State :=
  if j.suppressed then s.freeEntry j.number else s.raise j.port (.jobEnded j.number r j.flags j.bandsDone)

/-- R116 steps 1 to 3: the entry becomes ENDED with its result, its pin is released, and a finished still job's frame record is
handed over. -/
def State.closeEntry (s : State) (j : Job) (r : JobResult) : State :=
  let s := (s.updateJob j.number fun x => { x with state := .ended r, cancelPending := false }).unpin j.ref
  if writesRecord j r then s.addRecord (recordOf j r s.timebase) else s

/-- R116: an unended job ends with a result, whichever block causes it. -/
def State.endJob (s : State) (n : Nat) (r : JobResult) : State :=
  match s.findJob n with
  | none => s
  | some j =>
    let s := (s.closeEntry j r).announceEnd j r
    let s := match j.cls.stream with
      | some i => s.drainHalt i
      | none => s
    s.releaseContext n

end Sys2Proof.Machine
end

