-- ==== Sys2Proof/Machine/Engine.lean ====
section
/-! DEFINITION. The Correction Engine's choices: eligibility, selection, job start, suspension, restoration, and the pause timer's
start (R120 to R135, R144). -/

namespace Sys2Proof.Machine

/-- R122, conditions 2 and 3: memory is granted with no withdrawal pending, and the power state is ACTIVE. -/
def State.mayRun (s : State) : Bool :=
  decide (s.memPort.grant = .granted) && !s.memPort.pendingWithdrawal && decide (s.power = .active)

/-- R122, R123: the oldest eligible job of a class. -/
def State.oldestEligible (s : State) (c : JobClass) : Option Job :=
  if s.mayRun then s.jobs.table.find? fun j => decide (j.state = .queued) && decide (j.cls = c) else none

/-- The job becomes the current one, RUNNING with band 0 in progress (R124, R125). -/
def State.runJob (s : State) (n : Nat) (ws : WorkingSet) (identity : Bool) : State :=
  (s.updateJob n fun j => { j with state := .running }).withEngine
    { s.engine with now := .inBand { job := n, nextBand := 0, ws := ws, identity := identity } }

/-- R124: a job with a profile reference and a lens state, its version `v`. -/
def State.startWith (s : State) (j : Job) (v : Version) (l : LensState) : State :=
  let focal := trueFocalAt v.nodes l.nominal l.focus
  (s.updateJob j.number fun j => { j with trueFocal := some focal.1, flags := j.flags.joinClamped focal.2 }).runJob j.number
    (workingSetAt v l.nominal l.focus j.geom.crop) false

/-- R125: a job without a profile reference, by its no-profile policy. -/
def State.startWithout (s : State) (j : Job) : State :=
  match j.geom.policy with
  | .pass =>
    (s.updateJob j.number fun j =>
      { j with trueFocal := j.lens.map LensState.nominal, flags := j.flags.joinUncalibrated j.lens.isSome }).runJob
      j.number WorkingSet.identity true
  | .reject => s.endJob j.number .failedNoProfile

/-- The version and lens state a job starts with, when it holds a profile reference (R124). -/
def State.startInputs (s : State) (j : Job) : Option (Version × LensState) :=
  match j.ref, j.lens with
  | some r, some l => (s.store.find r).map fun v => (v, l)
  | _, _ => none

/-- R124, R125: a chosen job starts. -/
def State.startJob (s : State) (j : Job) : State :=
  match s.startInputs j with
  | some (v, l) => s.startWith j v l
  | none => s.startWithout j

/-- R144: the pause timer starts a fresh interval for a job. -/
def State.startPause (s : State) (n : Nat) : State :=
  s.withMemPort { s.memPort with
    pauseTimer := some { job := n, expiry := stampPlus s.timebase (1000 * s.memPort.pauseLimit) } }

/-- The current job waits for memory: PAUSED, the engine HOLDING, the pause timer started (R129 step 3, R132). -/
def State.pause (s : State) (c : Context) : State :=
  ((s.updateJob c.job fun j => { j with state := .paused }).withEngine { s.engine with now := .holding c }).startPause c.job

/-- The current job's next band starts: RUNNING, the engine IN_BAND (R132, R134). -/
def State.resume (s : State) (c : Context) : State :=
  (s.updateJob c.job fun j => { j with state := .running }).withEngine { s.engine with now := .inBand c }

/-- R132 step 2: the shadow job is restored, RUNNING, or PAUSED while memory is withdrawn. -/
def State.restore (s : State) (c : Context) : State :=
  let s := s.withEngine { s.engine with shadow := none }
  match s.memPort.grant with
  | .granted => s.resume c
  | .withdrawn => s.pause c

/-- R131 step 1: a still job is suspended into the shadow, and the current context is emptied. -/
def State.suspend (s : State) (c : Context) : State :=
  (s.updateJob c.job fun j => { j with state := .suspended }).withEngine { now := .idle, shadow := some c }

/-- R123, R132: what an IDLE engine does next: the oldest eligible URGENT job starts; otherwise the shadow is restored;
otherwise the oldest eligible STILL job, then PREVIEW job, starts. A job rejected at its start leaves the engine IDLE, and the
choice is made again; `fuel` choices are enough when there are that many entries, since each rejection ends one. -/
def State.refill : Nat → State → State
  | 0, s => s
  | fuel + 1, s =>
    match s.engine.now with
    | .inBand _ => s
    | .holding _ => s
    | .idle =>
      match s.oldestEligible .urgent with
      | some j => State.refill fuel (s.startJob j)
      | none =>
        match s.engine.shadow with
        | some c => s.restore c
        | none =>
          match s.oldestEligible .still with
          | some j => State.refill fuel (s.startJob j)
          | none =>
            match s.oldestEligible .preview with
            | some j => State.refill fuel (s.startJob j)
            | none => s

/-- R123: the selection or refill made within an event once its other effects have been taken. -/
def State.engineTurn (s : State) : State := State.refill (s.jobs.table.length + 1) s

/-- R114, R102, R118: a job in QUEUED, WAITING_STATE, SUSPENDED or PAUSED ends CANCELLED at once; a RUNNING job's cancellation is
marked pending (R115). -/
def State.cancel (s : State) (j : Job) : State :=
  match j.state with
  | .running => s.updateJob j.number fun j => { j with cancelPending := true }
  | .queued | .waiting | .suspended | .paused => s.endJob j.number .cancelled
  | .ended _ => s

end Sys2Proof.Machine
end

