-- ==== Sys2Proof/Machine/Mapping.lean ====
section
/-! DEFINITION. The pixel mapping (R89 to R96) and the lines of a band (R126 to R128, R148, R149, R151). Positions are exact:
the half-diagonals are square roots, so a position is kept as `(rat + root * sqrt n) / den` with whole numbers, and the one
quantisation of R92 is taken from exact integer square roots. -/

namespace Sys2Proof.Machine

/-! ### Integer square roots -/

/-- One round of Newton's method from above, at most `fuel` times. -/
def isqrtFrom (n : Nat) : Nat → Nat → Nat
  | 0, g => g
  | fuel + 1, g => if n / g < g then isqrtFrom n fuel ((g + n / g) / 2) else g

/-- The greatest whole number whose square is not above `n`. -/
def isqrt (n : Nat) : Nat := isqrtFrom n (n.log2 + 2) (2 ^ (n.log2 / 2 + 1))

/-- The least whole number whose square is not below `n`. -/
def ceilSqrt (n : Nat) : Nat := if isqrt n * isqrt n = n then isqrt n else isqrt n + 1

/-- The greatest whole number not above `a * sqrt m + b * sqrt n`, from `(sqrt x ± sqrt y)^2 = x + y ± sqrt (4 x y)`. -/
def floorRootSum (a : Int) (m : Nat) (b : Int) (n : Nat) : Int :=
  let x := a.natAbs * a.natAbs * m
  let y := b.natAbs * b.natAbs * n
  if 0 ≤ a then
    if 0 ≤ b then (isqrt (x + y + isqrt (4 * x * y)) : Nat)
    else if y ≤ x then (isqrt (x + y - ceilSqrt (4 * x * y)) : Nat)
    else -((ceilSqrt (x + y - isqrt (4 * x * y)) : Nat) : Int)
  else
    if b ≤ 0 then -((ceilSqrt (x + y + ceilSqrt (4 * x * y)) : Nat) : Int)
    else if x ≤ y then (isqrt (x + y - ceilSqrt (4 * x * y)) : Nat)
    else -((ceilSqrt (x + y - isqrt (4 * x * y)) : Nat) : Int)

/-! ### Exact positions -/

/-- The number `(rat + root * sqrt n) / den`, for a whole number `n` fixed by the context. -/
structure Surd where
  rat : Int
  root : Int
  den : Nat
  deriving DecidableEq, Repr

def Surd.ofFrac (num : Int) (den : Nat) : Surd := { rat := num, root := 0, den := den }

def Surd.add (a b : Surd) : Surd :=
  { rat := a.rat * b.den + b.rat * a.den, root := a.root * b.den + b.root * a.den, den := a.den * b.den }

def Surd.mul (n : Nat) (a b : Surd) : Surd :=
  { rat := a.rat * b.rat + a.root * b.root * n, root := a.rat * b.root + a.root * b.rat, den := a.den * b.den }

/-- `W^2 + H^2`: four times the square of the half-diagonal (R89). -/
def diagonalSquare (w h : Nat) : Nat := w * w + h * h

/-- R89: the normalised position of a pixel coordinate less the centre offset, along one axis: with `D` half the square root of
`n`, `(x + 1/2 - W/2) / D` is `(2 x + 1 - W) * sqrt n / n`. -/
def axisPosition (n : Nat) (size : Nat) (x : Nat) (centre : Int) : Surd :=
  Surd.add { rat := 0, root := 2 * (x : Int) + 1 - (size : Int), den := n } (Surd.ofFrac (-centre) 4096)

/-- R89: the squared radius. -/
def radiusSquare (n : Nat) (px py : Surd) : Surd := (px.mul n px).add (py.mul n py)

/-- R90: the green factor, `scale * (1 + k1 r^2 + k2 r^4 + k3 r^6)`, multiplied out from the inside. -/
def greenFactor (n : Nat) (ws : WorkingSet) (r2 : Surd) : Surd :=
  let step := fun (k : Int) (inner : Surd) => (Surd.ofFrac k (2 ^ 20)).add (r2.mul n inner)
  let sum := (Surd.ofFrac 1 1).add (r2.mul n (step ws.k1 (step ws.k2 (Surd.ofFrac ws.k3 (2 ^ 20)))))
  (Surd.ofFrac ws.scale unitScale).mul n sum

/-- R91: the factor of a plane, `f * (1 + linear + cubic * r^2)`. -/
def planeFactor (n : Nat) (f r2 : Surd) (linear cubic : Int) : Surd :=
  f.mul n ((Surd.ofFrac 1 1).add ((Surd.ofFrac linear (2 ^ 24)).add ((Surd.ofFrac cubic (2 ^ 24)).mul n r2)))

/-- R92: a normalised source coordinate carried into a source frame of that size, `size/2 + s * D - 1/2` with `D` half the
square root of `ns`, quantised to the nearest multiple of 1/64, halfway going to the greater; the result is in 64ths. -/
def quantise (n ns size : Nat) (s : Surd) : Int :=
  ((64 * (size : Int) - 63) * s.den + floorRootSum (64 * s.rat) ns (64 * s.root) (n * ns)) / (2 * s.den : Nat)

/-- The three planes. -/
inductive Plane where
  | red | green | blue
  deriving DecidableEq, Repr

/-- A quantised source point, in 64ths of a source pixel (R92). -/
structure Point where
  x : Int
  y : Int
  deriving DecidableEq, Repr

/-- The source points of one output pixel, one per plane. -/
structure PixelPoints where
  red : Point
  green : Point
  blue : Point
  deriving DecidableEq, Repr

def PixelPoints.plane (p : PixelPoints) : Plane → Point
  | .red => p.red
  | .green => p.green
  | .blue => p.blue

/-- R89 to R92: the source points of output pixel (x, y). -/
def pixelPoints (g : Geometry) (ws : WorkingSet) (x y : Nat) : PixelPoints :=
  let n := diagonalSquare g.outWidth g.outHeight
  let ns := diagonalSquare g.srcWidth g.srcHeight
  let px := axisPosition n g.outWidth x ws.cx
  let py := axisPosition n g.outHeight y ws.cy
  let r2 := radiusSquare n px py
  let f := greenFactor n ws r2
  let point := fun (factor : Surd) =>
    { x := quantise n ns g.srcWidth ((Surd.ofFrac ws.cx 4096).add (px.mul n factor))
      y := quantise n ns g.srcHeight ((Surd.ofFrac ws.cy 4096).add (py.mul n factor)) : Point }
  { red := point (planeFactor n f r2 ws.chroma.redLinear ws.chroma.redCubic)
    green := point f
    blue := point (planeFactor n f r2 ws.chroma.blueLinear ws.chroma.blueCubic) }

/-- R92: the whole part of a quantised coordinate. -/
def wholePart (q : Int) : Int := q / 64

/-- R92: the fraction of a quantised coordinate, in 64ths. -/
def fraction (q : Int) : Nat := (q % 64).toNat

/-! ### The lines of a band -/

/-- R126: the output lines of band `band`. -/
def bandLines (outHeight band : Nat) : List Nat :=
  (List.range 16).filterMap fun k => if 16 * band + k < outHeight then some (16 * band + k) else none

/-- The source points of every pixel of a band, line by line. -/
def bandPoints (g : Geometry) (ws : WorkingSet) (band : Nat) : List (List PixelPoints) :=
  (bandLines g.outHeight band).map fun y => (List.range g.outWidth).map fun x => pixelPoints g ws x y

/-- R127: the lines one pixel needs: for each plane, line j0 and the next. -/
def pixelNeeds (p : PixelPoints) : List Int :=
  [wholePart p.red.y, wholePart p.red.y + 1, wholePart p.green.y, wholePart p.green.y + 1, wholePart p.blue.y,
    wholePart p.blue.y + 1]

/-- The lines a band needs, with repeats (R127). -/
def neededLines (points : List (List PixelPoints)) : List Int := points.flatMap fun line => line.flatMap pixelNeeds

/-- Inserting a number into an ascending list without repeats. -/
def insertLine (j : Nat) : List Nat → List Nat
  | [] => [j]
  | k :: rest => if j < k then j :: k :: rest else if j = k then k :: rest else k :: insertLine j rest

/-- R127: the needed lines inside the frame, distinct and ascending. -/
def insideLines (srcHeight : Nat) (needed : List Int) : List Nat :=
  needed.foldl (fun acc j => if 0 ≤ j ∧ j < (srcHeight : Int) then insertLine j.toNat acc else acc) []

/-- R127: the lowest needed line. -/
def lowestLine : List Int → Int
  | [] => 0
  | [j] => j
  | j :: rest => min j (lowestLine rest)

/-- R127: the fetched lines: the lowest 256 of the needed lines inside the frame, and one line when there is none. -/
def fetchedLines (srcHeight : Nat) (needed : List Int) : List Nat :=
  match (insideLines srcHeight needed).take 256 with
  | [] => if lowestLine needed < 0 then [0] else [srcHeight - 1]
  | j :: rest => j :: rest

/-- R94: a column brought to the nearest column of the frame. -/
def nearestColumn (srcWidth : Nat) (i : Int) : Nat := (max 0 (min i ((srcWidth : Int) - 1))).toNat

/-- R94, R127: the usable line nearest to `j`, the upper one of two equally near; `best` is the nearest so far. -/
def nearestLine (j : Int) (best : Nat) : List Nat → Nat
  | [] => best
  | k :: rest =>
    if (j - (k : Int)).natAbs < (j - (best : Int)).natAbs then nearestLine j k rest else nearestLine j best rest

/-- R151: the place of a plane's sample within a pixel, red, green, blue. -/
def Plane.index : Plane → Nat
  | .red => 0
  | .green => 1
  | .blue => 2

/-- R151: a sample of a pixel in frame memory, its lower byte at the lower address. -/
def readSample (m : Memory) (f : PixelFormat) (address : Nat) : Nat :=
  match f with
  | .rgb24 => (m.read address).toNat
  | .rgb48 => (m.read address).toNat + 256 * (m.read (address + 1)).toNat

/-- R148, R151: the address of a plane's sample of source pixel (i, j). -/
def sampleAddress (d : Descriptor) (f : PixelFormat) (p : Plane) (i j : Nat) : Nat :=
  d.address + j * d.pitch + i * bytesPerPixel f + p.index * (bytesPerPixel f / 3)

def planeOf (c : Rgb) : Plane → Nat
  | .red => c.red
  | .green => c.green
  | .blue => c.blue

/-- R94: the sample of a plane at (i, j), or its replacement by the border policy; `fetched` are the usable lines. -/
def sourceSample (m : Memory) (d : Descriptor) (g : Geometry) (fetched : List Nat) (p : Plane) (i j : Int) : Nat :=
  let inside := decide (0 ≤ i) && decide (i < (g.srcWidth : Int)) && decide (0 ≤ j) && fetched.contains j.toNat
  if inside then readSample m g.format (sampleAddress d g.format p i.toNat j.toNat)
  else match g.border with
    | .fill => planeOf g.fill p
    | .edge =>
      readSample m g.format
        (sampleAddress d g.format p (nearestColumn g.srcWidth i) (nearestLine j (fetched.headD 0) fetched))

/-- R94, R128: the sample at (i, j) is replaced because its line, a line of the frame, has not been fetched. A sample whose column
lies outside the frame is outside the frame itself, and is not reported on any line (DEDUCED, log 33). -/
def unfetched (g : Geometry) (fetched : List Nat) (i j : Int) : Bool :=
  decide (0 ≤ i) && decide (i < (g.srcWidth : Int)) && decide (0 ≤ j) && decide (j < (g.srcHeight : Int)) &&
    !fetched.contains j.toNat

/-- One of the four samples of a source point is reported (R92, R94). -/
def pointLimited (g : Geometry) (fetched : List Nat) (q : Point) : Bool :=
  let i := wholePart q.x
  let j := wholePart q.y
  unfetched g fetched i j || unfetched g fetched (i + 1) j || unfetched g fetched i (j + 1) ||
    unfetched g fetched (i + 1) (j + 1)

/-- A sample of one of the three planes of a pixel is reported. -/
def PixelPoints.limited (g : Geometry) (fetched : List Nat) (p : PixelPoints) : Bool :=
  pointLimited g fetched p.red || pointLimited g fetched p.green || pointLimited g fetched p.blue

/-- R93: the blend of four samples at fractions `a` and `b` of 64, rounded to the nearest, halfway up. -/
def blendSamples (a b s00 s10 s01 s11 : Nat) : Nat :=
  ((64 - a) * (64 - b) * s00 + a * (64 - b) * s10 + (64 - a) * b * s01 + a * b * s11 + 2048) / 4096

/-- R93: the output sample of a plane at its source point. -/
def outputSample (m : Memory) (d : Descriptor) (g : Geometry) (fetched : List Nat) (p : Plane) (q : Point) : Nat :=
  let i := wholePart q.x
  let j := wholePart q.y
  let at_ := sourceSample m d g fetched p
  blendSamples (fraction q.x) (fraction q.y) (at_ i j) (at_ (i + 1) j) (at_ i (j + 1)) (at_ (i + 1) (j + 1))

/-- R151: the bytes of a sample. -/
def sampleBytes (f : PixelFormat) (v : Nat) : List Byte :=
  match f with
  | .rgb24 => [BitVec.ofNat 8 v]
  | .rgb48 => [BitVec.ofNat 8 v, BitVec.ofNat 8 (v / 256)]

/-- R151: the bytes of an output pixel: red, green, blue. -/
def pixelBytes (m : Memory) (d : Descriptor) (g : Geometry) (fetched : List Nat) (q : PixelPoints) : List Byte :=
  let bytes := fun p => sampleBytes g.format (outputSample m d g fetched p (q.plane p))
  bytes .red ++ bytes .green ++ bytes .blue

/-- R149: one output line as writes, ascending from the line's start. -/
def lineWrites (d : Descriptor) (y : Nat) (bytes : List Byte) : List Host.Cell :=
  bytes.zipIdx.map fun b => (d.address + y * d.pitch + b.2, b.1)

/-- What a band does to frame memory and to its job (R126 to R128): its writes, line by line in order, and whether one of
its output lines reports that a sample it replaced, inside the frame, lay on a line that was not fetched. -/
structure BandOutput where
  lines : List (List Host.Cell)
  spanLimited : Bool
  deriving DecidableEq, Repr

/-- R126: fetch, compute and write of one band of a job. -/
def bandOutput (m : Memory) (j : Job) (ws : WorkingSet) (band : Nat) : BandOutput :=
  let points := bandPoints j.geom ws band
  let needed := neededLines points
  let fetched := fetchedLines j.geom.srcHeight needed
  { lines := ((bandLines j.geom.outHeight band).zip points).map fun line =>
      lineWrites j.dest line.1 (line.2.flatMap (pixelBytes m j.source j.geom fetched))
    spanLimited := points.any fun line => line.any (PixelPoints.limited j.geom fetched) }

/-- R149: the bytes of memory after all of a band's writes. -/
def BandOutput.all (o : BandOutput) : List Host.Cell := o.lines.flatten

/-- R150: the writes made before a bus error. -/
def BandOutput.upTo (o : BandOutput) : BusTransfer → List Host.Cell
  | .read => []
  | .write line bytes => (o.lines.take line).flatten ++ ((o.lines[line]?).getD []).take bytes

/-- R140: the areas of a job lie within the address space of frame memory. -/
def Job.areasInside (j : Job) : Bool :=
  decide (j.source.address + j.source.pitch * j.geom.srcHeight ≤ addressSpace) &&
    decide (j.dest.address + j.dest.pitch * j.geom.outHeight ≤ addressSpace)

end Sys2Proof.Machine
end

