-- ==== Sys2Proof/Machine/BandEvents.lean ====
section
/-! DEFINITION. BAND BOUNDARY and BUS ERROR (R126 to R135, R143, R148 to R150). The transfers of a band are taken at its boundary,
or at the bus error that stops it (log 13). -/

namespace Sys2Proof.Machine

/-! ### Withdrawals held until a band ends (R143) -/

/-- R143: the grant state becomes WITHDRAWN and the pending withdrawal is cleared. -/
def State.takeWithdrawal (s : State) : State :=
  if s.memPort.pendingWithdrawal then
    s.withMemPort { s.memPort with grant := .withdrawn, pendingWithdrawal := false }
  else s

/-- R143: the job that is PAUSED afterwards. -/
def State.pausedJob (s : State) : Option Nat :=
  match s.engine.now with
  | .holding c => some c.job
  | .idle => none
  | .inBand _ => none

/-- R143: the held response is sent on the Body Port. -/
def State.sendHeld (s : State) (how : WithdrawalTaken) : State :=
  match (s.port .body).link, (s.port .body).request with
  | .inProgress, some (kind, tag) =>
    s.place .body { kind := kind, tag := tag, code := .ok, answer := .withdrawn how s.pausedJob }
  | _, _ => s

/-! ### The boundary (R129) -/

/-- R129 step 1: bands done rises, SPAN_LIMITED joins, and the next band is the one after. -/
def State.countBand (s : State) (c : Context) (limited : Bool) : State :=
  (s.updateJob c.job fun j =>
    { j with bandsDone := j.bandsDone + 1, flags := j.flags.joinSpanLimited limited }).withEngine
    { s.engine with now := .inBand { c with nextBand := c.nextBand + 1 } }

/-- R129 step 2: a pending cancellation ends the job. -/
def State.boundaryCancel (s : State) (j : Job) : State := if j.cancelPending then s.endJob j.number .cancelled else s

/-- R129 step 3: a pending withdrawal is taken; a current job with bands remaining becomes PAUSED. -/
def State.boundaryWithdraw (s : State) (bandsTotal : Nat) : State :=
  if s.memPort.pendingWithdrawal then
    match s.engine.now with
    | .inBand c => if c.nextBand < bandsTotal then s.takeWithdrawal.pause c else s.takeWithdrawal
    | .idle => s.takeWithdrawal
    | .holding _ => s.takeWithdrawal
  else s

/-- R129 step 4: a STILL job with bands remaining is suspended when an URGENT job is eligible; the refill starts that job. -/
def State.boundaryPreempt (s : State) (j : Job) : State :=
  match s.engine.now with
  | .inBand c =>
    if j.cls = .still ∧ c.nextBand < j.bandsTotal ∧ (s.oldestEligible .urgent).isSome then s.suspend c else s
  | .idle => s
  | .holding _ => s

/-- R130: the result of a job that completes. -/
def Context.result (c : Context) : JobResult := if c.identity then .uncorrected else .done

/-- R129 step 5: a job with no band remaining ends. -/
def State.boundaryComplete (s : State) (j : Job) : State :=
  match s.engine.now with
  | .inBand c => if j.bandsTotal ≤ c.nextBand then s.endJob j.number c.result else s
  | .idle => s
  | .holding _ => s

/-- R129 steps 1 to 7 at the boundary of the band in progress of job `j`; step 6 leaves the engine IN_BAND in the next band. -/
def State.boundary (s : State) (c : Context) (j : Job) (limited : Bool) : State :=
  (((((s.countBand c limited).boundaryCancel j).boundaryWithdraw j.bandsTotal).boundaryPreempt j).boundaryComplete
    j).engineTurn

/-- R143: the held response follows the engine's steps, when the event took a withdrawal. -/
def State.answerHeld (s : State) (taken : Bool) (how : WithdrawalTaken) : State := if taken then s.sendHeld how else s

/-- BAND BOUNDARY (R129): the band's writes have completed. Without a band in progress there is no such event (log 4). -/
def execBandBoundary (s : State) : Result :=
  match s.engine.now with
  | .idle => .next s
  | .holding _ => .next s
  | .inBand c =>
    match s.findJob c.job with
    | none => .fault .contextWithoutJob
    | some j =>
      if j.areasInside then
        let out := bandOutput s.frameMem j c.ws c.nextBand
        .next (((s.withFrameMem (s.frameMem.writeAll out.all)).boundary c j out.spanLimited).answerHeld
          s.memPort.pendingWithdrawal .atBoundary)
      else .fault .transferOutsideAddressSpace

/-! ### Bus errors (R133, R150) -/

/-- The transfer is one of the band's (R148, R149). -/
def BandOutput.has (o : BandOutput) : BusTransfer → Bool
  | .read => true
  | .write line _ => decide (line < o.lines.length)

/-- R133: the band is abandoned, the job ends FAILED_MEMORY_FAULT, a pending withdrawal is taken, and the engine refills. -/
def State.fail (s : State) (j : Job) : State := ((s.endJob j.number .failedMemoryFault).takeWithdrawal).engineTurn

/-- BUS ERROR (R133, R150): a transfer of the band in progress met a bus error; the writes before it have been made. Without a
band in progress, or for a line the band has not, there is no such event (log 14). -/
def execBusError (transfer : BusTransfer) (s : State) : Result :=
  match s.engine.now with
  | .idle => .next s
  | .holding _ => .next s
  | .inBand c =>
    match s.findJob c.job with
    | none => .fault .contextWithoutJob
    | some j =>
      if j.areasInside then
        let out := bandOutput s.frameMem j c.ws c.nextBand
        if out.has transfer then
          .next (((s.withFrameMem (s.frameMem.writeAll (out.upTo transfer))).fail j).answerHeld
            s.memPort.pendingWithdrawal .atFault)
        else .next s
      else .fault .transferOutsideAddressSpace

end Sys2Proof.Machine
end

