-- ==== Sys2Proof/Machine/EditRequests.lean ====
section
/-! DEFINITION. The requests of the Edit Controller: OPEN EDIT, WRITE NODES, WRITE CHROMA, WRITE CROP, COMMIT EDIT, ABORT EDIT
(R23 to R42). -/

namespace Sys2Proof.Machine

/-! ### Opening -/

/-- R26, check 1: the slot and carry set of an OPEN EDIT whose fields are all in range. -/
def openFields (slot : Nat) (key : LensKey) (cx cy : Int) (carry : Byte) : Option (Fin 32 × Sections) :=
  match slotOf slot, carryOf carry with
  | some i, some c => if keyInRange key && offsetInRange cx && offsetInRange cy then some (i, c) else none
  | _, _ => none

/-- The other editing port. -/
def otherEditor : Port → Port
  | .body => .transmitter
  | .transmitter => .body
  | .mount => .mount

/-- R26, check 3: the other editing port holds the slot. -/
def State.heldByOther (s : State) (p : Port) (slot : Fin 32) : Bool :=
  match s.edit (otherEditor p) with
  | some e => decide (e.slot = slot)
  | none => false

/-- R27: the staging version is created and the edit record becomes open. -/
def State.openEdit (s : State) (p : Port) (slot : Fin 32) (key : LensKey) (cx cy : Int) (carry : Sections) : State :=
  let x := s.store.slot slot
  let staging : Staging := { key := key, cx := cx, cy := cy, nodes := [], chroma := none, crop := none }
  (s.withStore { s.store.setSlot slot { x with staging := some staging } with used := s.store.used + 1 }).setEdit p
    (some { slot := slot, carry := carry, carrySource := x.live.map Version.number })

/-- R26, R27. -/
def ownOpenEdit (p : Port) (slot : Nat) (key : LensKey) (cx cy : Int) (carry : Byte) (s : State) : Taken :=
  match openFields slot key cx cy carry with
  | none => refuse s .badField
  | some (i, c) =>
    match s.edit p with
    | some e => refuseWith s .editOpen (.heldSlot e.slot)
    | none =>
      if s.heldByOther p i then refuseWith s .editHeld (.holder (otherEditor p))
      else if s.store.free = 0 then refuseWith s .storeFull (.blocks 1 0)
      else
        let live := (s.store.slot i).live
        answerOk (s.openEdit p i key cx cy c) (.opened i live.isSome (live.map Version.number))

/-- OPEN EDIT (R26, R27). -/
def execOpenEdit (h : Hdr) (slot : Nat) (key : LensKey) (cx cy : Int) (carry : Byte) (s : State) : Result :=
  request .openEdit h (ownOpenEdit h.port slot key cx cy carry) s

/-! ### Writing -/

/-- The staging version of an open edit. -/
def State.staging (s : State) (e : Edit) : Staging :=
  match (s.store.slot e.slot).staging with
  | some v => v
  | none => { key := { model := 0, converter := 0 }, cx := 0, cy := 0, nodes := [], chroma := none, crop := none }

/-- R29: the progress of an edit. -/
def Staging.progress (v : Staging) : Progress :=
  { nodes := v.nodes.length, chroma := chromaCount v.chroma, crop := v.crop.isSome, blocks := v.cost }

/-- R23: the written sections, read from the staging version. -/
def Staging.written (v : Staging) : Sections :=
  { geometry := !v.nodes.isEmpty, chroma := v.chroma.isSome, crop := v.crop.isSome }

/-- A staging version is replaced, the used count rising by `blocks` (R31, R33, R34). -/
def State.rewrite (s : State) (e : Edit) (v : Staging) (blocks : Nat) : State :=
  s.withStore { s.store.setSlot e.slot { s.store.slot e.slot with staging := some v } with used := s.store.used + blocks }

/-- R29: the answer of a write as the edit stands after it. -/
def wroteOk (s : State) (v : Staging) : Taken := answerOk s (.written v.progress none none)

/-- R29: a refusal of a write with the progress, and with the position of the first failing item. -/
def writeRefused (s : State) (c : Code) (v : Staging) (position : Option Nat) : Taken :=
  refuseWith s c (.written v.progress position none)

/-- R29: a refusal of a write for want of blocks. -/
def writeFull (s : State) (v : Staging) (needed : Nat) : Taken :=
  refuseWith s .storeFull (.written v.progress none (some (needed, s.store.free)))

/-- R30, check 4: a version holds at most 40 nodes (R6). -/
def maxNodes : Nat := 40

/-- R30, R31: the checks in order, then the nodes are appended. -/
def ownWriteNodes (p : Port) (nodes : List NodeRecord) (s : State) : Taken :=
  match s.edit p with
  | none => refuse s .noEdit
  | some e =>
    let v := s.staging e
    match orderFault v.nodes.getLast? 1 nodes with
    | some i => writeRefused s .order v (some i)
    | none =>
      match firstFailing nodeInRange 1 nodes with
      | some i => writeRefused s .badField v (some i)
      | none =>
        if maxNodes < v.nodes.length + nodes.length then writeRefused s .tooMany v none
        else if s.store.free < nodes.length then writeFull s v nodes.length
        else
          let v' := { v with nodes := v.nodes ++ nodes }
          wroteOk (s.rewrite e v' nodes.length) v'

/-- R30, R32: a body of one to four records, or a wrong length. -/
def itemsHdr {α : Type} (h : Hdr) (items : List α) : Hdr :=
  { h with badLength := h.badLength || !(inRange 1 items.length 4) }

/-- WRITE NODES (R30, R31); a message of other than 1 to 4 nodes has a wrong length. -/
def execWriteNodes (h : Hdr) (nodes : List NodeRecord) (s : State) : Result :=
  request .writeNodes (itemsHdr h nodes) (ownWriteNodes h.port nodes) s

/-- R33: the chroma section with records appended, created by the first. -/
def appendChroma (c : Option (List ChromaTerms)) (records : List ChromaRecord) : Option (List ChromaTerms) :=
  some (c.getD [] ++ records.map ChromaRecord.terms)

/-- R32, R33: the checks in order, then the records are appended. -/
def ownWriteChroma (p : Port) (records : List ChromaRecord) (s : State) : Taken :=
  match s.edit p with
  | none => refuse s .noEdit
  | some e =>
    let v := s.staging e
    match indexFault (chromaCount v.chroma) v.nodes.length 1 records with
    | some i => writeRefused s .order v (some i)
    | none =>
      match firstFailing (fun c => termsInRange c.terms) 1 records with
      | some i => writeRefused s .badField v (some i)
      | none =>
        if s.store.free < records.length then writeFull s v records.length
        else
          let v' := { v with chroma := appendChroma v.chroma records }
          wroteOk (s.rewrite e v' records.length) v'

/-- WRITE CHROMA (R32, R33); a message of other than 1 to 4 records has a wrong length. -/
def execWriteChroma (h : Hdr) (records : List ChromaRecord) (s : State) : Result :=
  request .writeChroma (itemsHdr h records) (ownWriteChroma h.port records) s

/-- R34: the crop section holds the given scale; no block is taken. R29 names position 1 for the one item of the message. -/
def ownWriteCrop (p : Port) (scale : Nat) (s : State) : Taken :=
  match s.edit p with
  | none => refuse s .noEdit
  | some e =>
    let v := s.staging e
    if cropInRange scale then
      let v' := { v with crop := some scale }
      wroteOk (s.rewrite e v' 0) v'
    else writeRefused s .badField v (some 1)

/-- WRITE CROP (R34). -/
def execWriteCrop (h : Hdr) (scale : Nat) (s : State) : Result := request .writeCrop h (ownWriteCrop h.port scale) s

/-! ### Committing -/

/-- R28: the carry source of an edit: the live version with the number recorded when the edit was opened. -/
def State.carrySource (s : State) (e : Edit) : Option Version :=
  match e.carrySource, (s.store.slot e.slot).live with
  | some n, some v => if v.number = n then some v else none
  | _, _ => none

/-- R28: the sections that are carried: in the carry set, not written, and held by the carry source. -/
def carried (carry written : Sections) : Option Version → Sections
  | none => { geometry := false, chroma := false, crop := false }
  | some v =>
    { geometry := carry.geometry && !written.geometry
      chroma := carry.chroma && !written.chroma && v.chroma.isSome
      crop := carry.crop && !written.crop && v.crop.isSome }

/-- R37: the blocks needed to copy the carried sections. -/
def carryBlocks (c : Sections) : Option Version → Nat
  | none => 0
  | some v => (if c.geometry then v.nodes.length else 0) + (if c.chroma then chromaCount v.chroma else 0)

/-- R38 step 1: the staging version with the carried sections copied into it. -/
def Staging.withCarried (x : Staging) (c : Sections) : Option Version → Staging
  | none => x
  | some v =>
    { x with
      nodes := if c.geometry then v.nodes else x.nodes
      chroma := if c.chroma then v.chroma else x.chroma
      crop := if c.crop then v.crop else x.crop }

/-- R35, checks 2 to 4. -/
def invalidReason (v : Staging) (c : Sections) : Option InvalidReason :=
  if !v.written.geometry && !c.geometry then some .noGeometry
  else if v.written.chroma && decide (chromaCount v.chroma ≠ v.nodes.length) then some .chromaCount
  else if c.chroma && v.written.geometry then some .chromaMismatch
  else none

/-- R38 step 2: the staging version becomes a live version with the slot's next number. -/
def Staging.toVersion (x : Staging) (number : Nat) : Version :=
  { number := number, key := x.key, cx := x.cx, cy := x.cy, nodes := x.nodes, chroma := x.chroma, crop := x.crop, pins := 0 }

/-- R40: what became of the former live version. -/
def formerOf : Option Version → Former
  | none => .none
  | some v => if v.pins = 0 then .freed v.number else .retired v.number

/-- R38 steps 1 to 4: the slot with its new live version, the former one retired or freed (R39). -/
def Slot.commit (x : Slot) (v : Staging) : Slot :=
  { x.leaveService with
    lastIssued := x.nextNumber
    live := some (v.toVersion x.nextNumber)
    staging := none }

/-- R38: the steps of a commit that has passed its checks; `v` is the staging version with its carried sections, `blocks` the
blocks they took. -/
def State.commitEdit (s : State) (p : Port) (e : Edit) (v : Staging) (blocks : Nat) : State :=
  let x := s.store.slot e.slot
  let st := { s.store.setSlot e.slot (x.commit v) with used := s.store.used + blocks - x.leaveBlocks }
  ((s.withStore st).setEdit p none).handOff e.slot

/-- R35 to R40: the checks in order, then the commit. -/
def ownCommitEdit (p : Port) (s : State) : Taken :=
  match s.edit p with
  | none => refuse s .noEdit
  | some e =>
    let v := s.staging e
    let source := s.carrySource e
    let c := carried e.carry v.written source
    let needed := carryBlocks c source
    match invalidReason v c with
    | some r => refuseWith s .invalidProfile (.invalid r v.progress)
    | none =>
      match s.store.keyHolder e.slot v.key with
      | some i => refuseWith s .keyInUse (.heldSlot i)
      | none =>
        if s.store.free < needed then refuseWith s .storeFull (.blocks needed s.store.free)
        else
          let x := s.store.slot e.slot
          let v' := v.withCarried c source
          let t := s.commitEdit p e v' needed
          answerOk t
            (.committed e.slot x.nextNumber (formerOf x.live) c v'.nodes.length v'.chroma.isSome v'.crop.isSome v'.cost
              t.store.used)

/-- COMMIT EDIT (R35 to R40). -/
def execCommitEdit (h : Hdr) (s : State) : Result := request .commitEdit h (ownCommitEdit h.port) s

/-! ### Aborting -/

/-- R41: the staging version is freed and the edit record becomes idle. -/
def ownAbortEdit (p : Port) (s : State) : Taken :=
  match s.edit p with
  | none => refuse s .noEdit
  | some e => answerOk (s.abortEdit p) (.freedBlocks (s.stagingCost e.slot))

/-- ABORT EDIT (R41). -/
def execAbortEdit (h : Hdr) (s : State) : Result := request .abortEdit h (ownAbortEdit h.port) s

end Sys2Proof.Machine
end

