-- ==== Sys2Proof/Machine/Exposure.lean ====
section
/-! DEFINITION. Resolving exposures: the search of the report history, the outcome of an attempt, pinning and the hand-off to
waiting jobs, and removal from the log (R67, R69 to R77). -/

namespace Sys2Proof.Machine

/-! ### The report history against a midpoint (R45, R71) -/

/-- An aged report is taken as earlier than any Timebase value it is compared with (R45). -/
def Report.atOrBefore (r : Report) (m : Stamp) : Bool := r.aged || !later r.stamp m

/-- The report is stamped at `m` itself. -/
def Report.isAt (r : Report) (m : Stamp) : Bool := !r.aged && decide (r.stamp = m)

/-- R71: the newest report whose stamp is at or before `m`. -/
def beforeReport (history : List Report) (m : Stamp) : Option Report := (history.filter fun r => r.atOrBefore m).getLast?

/-- R71: the oldest report whose stamp is after `m`. -/
def afterReport (history : List Report) (m : Stamp) : Option Report := history.find? fun r => !r.atOrBefore m

/-- R71: `a + (b - a) * num / den`, rounded to the nearest whole unit, halves up. -/
def interpolate (a b num den : Nat) : Nat :=
  ((2 * ((a : Int) * den + ((b : Int) - a) * num) + den) / (2 * den : Nat)).toNat

/-- A value between two others that the spec does not fix: the free value, kept within them (log 18). -/
def openBetween (a b free : Nat) : Nat := min a b + free % (max a b - min a b + 1)

/-- R71, both reports present: focal and focus interpolated in time, the aperture of the before report. When an aged before
report lies so far back that the differences modulo 2^32 give no fraction below 1, the values are open (log 18). -/
def blendReports (b a : Report) (m : Stamp) : LensState :=
  let num := (m - b.stamp).toNat
  let den := (a.stamp - b.stamp).toNat
  if num < den then
    { nominal := interpolate b.lens.nominal a.lens.nominal num den
      focus := interpolate b.lens.focus a.lens.focus num den
      aperture := b.lens.aperture }
  else
    { nominal := openBetween b.lens.nominal a.lens.nominal (Config.agedBlend b.stamp m a.stamp)
      focus := openBetween b.lens.focus a.lens.focus (Config.agedBlend b.stamp m a.stamp)
      aperture := b.lens.aperture }

/-- What the search of R71 gives: a lens state with or without NEAREST, or nothing yet. -/
inductive Sought where
  | found (lens : LensState) (nearest : Bool)
  | notYet
  deriving DecidableEq, Repr

/-- R71: the first case that applies. -/
def seek (history : List Report) (m : Stamp) : Sought :=
  match beforeReport history m, afterReport history m with
  | some b, some a => .found (blendReports b a m) false
  | some b, none => if b.isAt m then .found b.lens false else .notYet
  | none, some a => .found a.lens true
  | none, none => .notYet

/-! ### The outcome of an attempt -/

/-- How an exposure is resolved. -/
inductive Verdict where
  | noState
  | detached
  | state (lens : LensState) (held nearest : Bool)
  deriving DecidableEq, Repr

/-- R70: whether the exposure belongs to the lens now attached, and then the search of R71; none leaves it awaiting. -/
def State.attempt (s : State) (e : ExposureRec) (m : Stamp) : Option Verdict :=
  match e.key with
  | none => some .noState
  | some _ =>
    if s.tracker.lens.isNone ∨ s.tracker.attachCount ≠ e.attachCount then some .detached
    else match seek s.tracker.history m with
      | .found l nearest => some (.state l false nearest)
      | .notYet => none

/-- The bound slot and version the tracker gives (R60). -/
def Tracker.bound (t : Tracker) : Option ProfileRef := t.lens.bind Attached.bound

/-- R70, R74 to R76: lens state, state flags and profile reference of a resolved record. -/
def State.resolution (s : State) : Verdict → Resolution
  | .noState => { lens := none, flags := { StateFlags.empty with noState := true }, ref := none }
  | .detached => { lens := none, flags := { StateFlags.empty with detached := true }, ref := none }
  | .state l held nearest =>
    { lens := some l
      flags := { StateFlags.empty with held := held, nearest := nearest, unbound := s.tracker.bound.isNone }
      ref := s.tracker.bound }

/-! ### Recording it and handing it to jobs -/

def State.withLog (s : State) (l : List ExposureRec) : State := s.withExposure { s.exposure with log := l }

def State.updateExposure (s : State) (q : Nat) (f : ExposureRec → ExposureRec) : State :=
  s.withLog (s.exposure.log.map fun e => if e.seq = q then f e else e)

def State.findExposure (s : State) (q : Nat) : Option ExposureRec := s.exposure.log.find? fun e => e.seq = q

/-- R111: the firmware revision a job copies: the tracker's, when the lens of the exposure is still attached. -/
def State.firmwareFor (s : State) (e : ExposureRec) : Option Nat :=
  if s.tracker.attachCount = e.attachCount then s.tracker.lens.map Attached.firmware else none

/-- R77, R111 step 3: a job takes an exposure's result: lens key, lens state, state flags, profile reference, firmware revision
and result flags; it becomes QUEUED. -/
def Job.takeResult (j : Job) (key : Option LensKey) (firmware : Option Nat) (r : Resolution) : Job :=
  { j with key := key, firmware := firmware, lens := r.lens, stateFlags := some r.flags, ref := r.ref, state := .queued,
           flags := j.flags.joinState r.flags }

/-- R77: one waiting job copies the result and takes a pin of its own. -/
def State.handTo (e : ExposureRec) (r : Resolution) (s : State) (n : Nat) : State :=
  (s.updateJob n fun j => j.takeResult e.key (s.firmwareFor e) r).pin r.ref

/-- The jobs in WAITING_STATE on a sequence, in the order of their submission. -/
def State.waitingOn (s : State) (q : Nat) : List Nat :=
  (s.jobs.table.filter fun j => decide (j.state = .waiting) && decide (j.seq = q)).map Job.number

/-- R77: the result goes to every waiting job in turn. -/
def State.handOver (s : State) (e : ExposureRec) (r : Resolution) : State := (s.waitingOn e.seq).foldl (State.handTo e r) s

/-- A record becomes RESOLVED: its result is fixed, its version pinned (R76), and the result handed to its jobs (R77). -/
def State.resolve (s : State) (e : ExposureRec) (ended m : Stamp) (v : Verdict) : State :=
  let r := s.resolution v
  ((s.updateExposure e.seq fun x => { x with state := .resolved ended m r }).pin r.ref).handOver e r

/-- R73: another attempt at one AWAITING_STATE record. -/
def State.retry (s : State) (e : ExposureRec) : State :=
  match e.state with
  | .awaiting ended m _ =>
    match s.attempt e m with
    | some v => s.resolve e ended m v
    | none => s
  | .opened _ | .resolved _ _ _ | .abandoned => s

/-- R73: an attempt at every AWAITING_STATE record, oldest to newest. -/
def State.retryAll (s : State) : State := s.exposure.log.foldl State.retry s

/-- R75: one awaiting record is RESOLVED with DETACHED. -/
def State.detachRecord (s : State) (e : ExposureRec) : State :=
  match e.state with
  | .awaiting ended m _ => s.resolve e ended m .detached
  | .opened _ | .resolved _ _ _ | .abandoned => s

/-- R75: every awaiting record, oldest to newest. -/
def State.detachAll (s : State) : State := s.exposure.log.foldl State.detachRecord s

def ExposureRec.isAwaiting (e : ExposureRec) : Bool :=
  match e.state with
  | .awaiting _ _ _ => true
  | .opened _ | .resolved _ _ _ | .abandoned => false

def ExposureRec.isOpen (e : ExposureRec) : Bool :=
  match e.state with
  | .opened _ => true
  | .awaiting _ _ _ | .resolved _ _ _ | .abandoned => false

/-- The profile reference a record holds (R64). -/
def ExposureRec.ref (e : ExposureRec) : Option ProfileRef :=
  match e.state with
  | .resolved _ _ r => r.ref
  | .opened _ | .awaiting _ _ _ | .abandoned => none

/-- R75: the number of records a detach resolves. -/
def State.awaitingCount (s : State) : Nat := (s.exposure.log.filter ExposureRec.isAwaiting).length

/-- R69: the midpoint, the start stamp plus half the length rounded down, modulo 2^32. -/
def midpoint (start ended : Stamp) : Stamp := stampPlus start ((ended - start).toNat / 2)

/-! ### The log -/

/-- R63: the log holds at most 8 records. -/
def logSize : Nat := 8

/-- R66 step 1: an OPEN record becomes ABANDONED. -/
def State.abandonOpen (s : State) : State :=
  s.withLog (s.exposure.log.map fun e => if e.isOpen then { e with state := .abandoned } else e)

/-- R67: the oldest record leaves the log: its pin is released, then the jobs waiting on it end FAILED_EXPOSURE_DROPPED. -/
def State.dropOldest (s : State) : State :=
  match s.exposure.log with
  | [] => s
  | e :: rest =>
    let s := s.unpin e.ref
    let s := if e.isAwaiting then (s.waitingOn e.seq).foldl (fun s n => s.endJob n .failedExposureDropped) s else s
    s.withLog rest

end Sys2Proof.Machine
end

