-- ==== Sys2Proof/Machine/Power.lean ====
section
/-! DEFINITION. Asking Power Control for a wake (R185, R186). -/

namespace Sys2Proof.Machine

/-- R185: a wake lasts 2000 microseconds. -/
def wakeTime : Nat := 2000

/-- R185, R186: in STANDBY a wake begins, with its wake end 2000 microseconds on; in any other power state nothing changes. The
Timebase read is the one of the event that asks: for EXPS that is the qualification, 1 microsecond or more after the edge (R62, R186),
where the closing sentence of 11.6 counts the 2000 from the edge itself (DEDUCED, log 32). -/
def State.askWake (s : State) : State :=
  match s.power with
  | .standby => s.withPower (.waking (stampPlus s.timebase wakeTime))
  | .active => s
  | .waking _ => s
  | .inReset => s

end Sys2Proof.Machine
end

