-- ==== Sys2Proof/Machine/ExposureEvents.lean ====
section
/-! DEFINITION. QUERY EXPOSURE, the edges of the trigger inputs, EXPS, EXPE, and the expiries of open limits and resolve deadlines
(R62 to R69, R72, R74, R79). -/

namespace Sys2Proof.Machine

/-! ### QUERY EXPOSURE -/

/-- R79: the fields of a record that QUERY EXPOSURE answers, by its state; the open limit is not among them. -/
def ExposureRec.entry (e : ExposureRec) : ExposureEntry :=
  let plain : ExposureEntry :=
    { seq := e.seq, state := .opened, start := e.start, ended := none, midpoint := none, attachCount := e.attachCount,
      key := e.key, lens := none, flags := StateFlags.empty, ref := none, deadline := none }
  match e.state with
  | .opened _ => plain
  | .awaiting ended m deadline =>
    { plain with state := .awaiting, ended := some ended, midpoint := some m, deadline := some deadline }
  | .resolved ended m r =>
    { plain with state := .resolved, ended := some ended, midpoint := some m, lens := r.lens, flags := r.flags, ref := r.ref }
  | .abandoned => { plain with state := .abandoned }

/-- R79: the record as it stands. -/
def ownQueryExposure (seq : Nat) (s : State) : Taken :=
  if seq = 0 then refuse s .badField
  else match s.findExposure seq with
    | none => refuse s .unknownExposure
    | some e => answerOk s (.exposure e.entry s.exposure.log.length)

/-- QUERY EXPOSURE (R79). -/
def execQueryExposure (h : Hdr) (seq : Nat) (s : State) : Result := request .queryExposure h (ownQueryExposure seq) s

/-! ### The trigger filters -/

def State.filter (s : State) : TriggerLine → Filter
  | .exps => s.exposure.exps
  | .expe => s.exposure.expe

def State.setFilter (s : State) (l : TriggerLine) (f : Filter) : State :=
  match l with
  | .exps => s.withExposure { s.exposure with exps := f }
  | .expe => s.withExposure { s.exposure with expe := f }

/-- The part is held in reset (R176, R187). -/
def State.inReset (s : State) : Bool := decide (s.power = .inReset)

/-- R62: a rising edge moves a LOW filter to QUALIFYING with the Timebase value as the pulse's stamp; none is taken in reset. -/
def execTriggerRisingEdge (line : TriggerLine) (s : State) : Result :=
  match s.inReset, s.filter line with
  | true, _ => .next s
  | false, .low => .next (s.setFilter line (.qualifying s.timebase))
  | false, .qualifying _ => .next s
  | false, .high => .next s

/-- R62: a falling edge returns a filter to LOW; a pulse that has not qualified is discarded. -/
def execTriggerFallingEdge (line : TriggerLine) (s : State) : Result :=
  if s.inReset then .next s else .next (s.setFilter line .low)

/-- R62: the stamp of a pulse whose line is still high 1 microsecond after its rising edge. -/
def State.qualified (s : State) (l : TriggerLine) : Option Stamp :=
  match s.filter l with
  | .qualifying t => if reached s.timebase (stampPlus t 1) then some t else none
  | .low => none
  | .high => none

/-! ### EXPS -/

/-- R66: the open limit of 30 s, in microseconds. -/
def openLimit : Nat := 30000000

/-- R66 step 2: room is made in a full log. -/
def State.makeRoom (s : State) : State := if logSize ≤ s.exposure.log.length then s.dropOldest else s

/-- R66 step 3: the record an EXPS makes. -/
def State.newExposure (s : State) (t : Stamp) : ExposureRec :=
  { seq := s.exposure.nextSeq, start := t, attachCount := s.tracker.attachCount, key := s.tracker.lens.map Attached.key,
    state := .opened (stampPlus t openLimit) }

/-- R65, R66 step 3: the new record joins the end of the log. -/
def State.addExposure (s : State) (t : Stamp) : State :=
  s.withExposure { s.exposure with
    log := s.exposure.log ++ [s.newExposure t]
    nextSeq := succ65535 s.exposure.nextSeq }

/-- R66 steps 1 to 4, for a pulse stamped `t`. -/
def State.startExposure (s : State) (t : Stamp) : State := ((s.abandonOpen.makeRoom).addExposure t).askWake

/-- EXPS (R62, R66): taken when the pulse has qualified; otherwise there is no such event (log 4). -/
def execExps (s : State) : Result :=
  match s.qualified .exps with
  | none => .next s
  | some t => .next ((s.setFilter .exps .high).startExposure t).engineTurn

/-! ### EXPE -/

/-- R63: the OPEN record. -/
def State.openRecord (s : State) : Option ExposureRec := s.exposure.log.find? ExposureRec.isOpen

/-- R72: the hold limit in microseconds. -/
def State.holdTime (s : State) : Nat := 1000 * s.tracker.holdLimit

/-- R69 to R72: the OPEN record ends at `t`, and is resolved at once or awaits its state. -/
def State.endExposure (s : State) (e : ExposureRec) (t : Stamp) : State :=
  let m := midpoint e.start t
  match s.attempt e m with
  | some v => s.resolve e t m v
  | none => s.updateExposure e.seq fun x => { x with state := .awaiting t m (stampPlus t s.holdTime) }

/-- R69: a pulse stamped `t` is measured against the OPEN record. -/
def State.takeEnd (s : State) (t : Stamp) : State :=
  match s.openRecord with
  | none => s
  | some e => if later e.start t then s else s.endExposure e t

/-- EXPE (R62, R69): taken when the pulse has qualified; otherwise there is no such event (log 4). -/
def execExpe (s : State) : Result :=
  match s.qualified .expe with
  | none => .next s
  | some t => .next ((s.setFilter .expe .high).takeEnd t).engineTurn

/-! ### Expiries -/

/-- The OPEN record's limit has been reached (R68). -/
def State.openLimitDue (s : State) : Bool :=
  s.exposure.log.any fun e =>
    match e.state with
    | .opened limit => reached s.timebase limit
    | .awaiting _ _ _ | .resolved _ _ _ | .abandoned => false

/-- OPEN LIMIT EXPIRY (R68): the OPEN record becomes ABANDONED. -/
def execOpenLimitExpiry (s : State) : Result := if s.openLimitDue then .next s.abandonOpen else .next s

/-- R74: the verdict at a deadline: the newest report with HELD, or NO_STATE. -/
def State.heldVerdict (s : State) : Verdict :=
  match s.tracker.history.getLast? with
  | some r => .state r.lens true false
  | none => .noState

/-- RESOLVE DEADLINE EXPIRY (R74): the awaiting record of that sequence is resolved without waiting further. -/
def execResolveDeadlineExpiry (seq : Nat) (s : State) : Result :=
  match s.findExposure seq with
  | none => .next s
  | some e =>
    match e.state with
    | .awaiting ended m deadline =>
      if reached s.timebase deadline then .next (s.resolve e ended m s.heldVerdict).engineTurn else .next s
    | .opened _ | .resolved _ _ _ | .abandoned => .next s

end Sys2Proof.Machine
end

