-- ==== Sys2Proof/Machine/JobRequests.lean ====
section
/-! DEFINITION. SUBMIT FRAME, QUERY JOB, CANCEL JOB (R104 to R115). -/

namespace Sys2Proof.Machine

/-- What a submission gives a new entry (R111 step 2, R160 step 1). -/
structure Submission where
  port : Port
  cls : JobClass
  seq : Nat
  source : Descriptor
  dest : Descriptor
  geom : Geometry
  deriving DecidableEq, Repr

/-- A new entry before its result is copied: WAITING_STATE, no flags, bands total from the output height (R105, R111). -/
def Submission.entry (x : Submission) (number : Nat) : Job :=
  { number := number, port := x.port, cls := x.cls, seq := x.seq, source := x.source, dest := x.dest, geom := x.geom,
    key := none, firmware := none, lens := none, stateFlags := none, ref := none, trueFocal := none, state := .waiting,
    cancelPending := false, suppressed := false, bandsDone := 0, bandsTotal := bandsOf x.geom.outHeight,
    flags := ResultFlags.empty }

/-- R107: an entry joins the table, and the next job number moves past it. -/
def State.addEntry (s : State) (j : Job) : State :=
  s.withJobs { s.jobs with table := s.jobs.table ++ [j], nextJob := succ65535 j.number }

/-- The state of a present entry, as a response gives it. -/
def State.jobState (s : State) (n : Nat) (otherwise : JobState) : JobState :=
  match s.findJob n with
  | some j => j.state
  | none => otherwise

/-! ### SUBMIT FRAME -/

/-- R112: the PREVIEW jobs a preview submission skips. -/
def State.skippable (s : State) : List Job :=
  s.jobs.table.filter fun j => decide (j.cls = .preview) && (decide (j.state = .queued) || decide (j.state = .waiting))

/-- R112: the supersede, for a submission to a stream. -/
def State.supersede (s : State) : StreamId → State
  | .still => s
  | .preview => s.skippable.foldl (fun s j => s.endJob j.number .skipped) s

/-- The number of jobs a submission to a stream skips (R111 step 7). -/
def State.skipCount (s : State) : StreamId → Nat
  | .still => 0
  | .preview => s.skippable.length

/-- R111 steps 2 to 4: the new entry, which copies the result of a RESOLVED record and takes a pin, or waits. -/
def State.enter (s : State) (x : Submission) (e : ExposureRec) : State :=
  match e.state with
  | .resolved _ _ r =>
    (s.addEntry ((x.entry s.newJobNumber).takeResult e.key (s.firmwareFor e) r)).pin r.ref
  | .awaiting _ _ _ | .opened _ | .abandoned => s.addEntry (x.entry s.newJobNumber)

/-- R78: the record can take a submission. -/
def ExposureRec.usable (e : ExposureRec) : Bool :=
  match e.state with
  | .awaiting _ _ _ | .resolved _ _ _ => true
  | .opened _ | .abandoned => false

/-- R111 steps 1 to 6. -/
def State.submitFrame (s : State) (i : StreamId) (e : ExposureRec) (source dest : Descriptor) : State :=
  ((s.supersede i).enter
    { port := .body, cls := streamClass i, seq := e.seq, source := source, dest := dest, geom := (s.stream i).config }
    e).askWake.engineTurn

/-- R109, R111: the checks in order, then the submission. The response shows the job's state after step 6 (log 23). -/
def ownSubmitFrame (stream : Field StreamId) (seq : Nat) (source dest : Descriptor) (s : State) : Taken :=
  match stream with
  | .invalid => refuse s .badField
  | .is i =>
    if seq = 0 then refuse s .badField
    else if (s.stream i).state ≠ .running then refuse s .streamState
    else match s.findExposure seq with
      | none => refuse s .unknownExposure
      | some e =>
        if !e.usable then refuse s .exposureUnusable
        else match descriptorFault s.memPort.window source dest (s.stream i).config with
          | some (d, c) => refuseWith s .window (.windowFails d c)
          | none =>
            if tableSize ≤ s.jobs.table.length then refuseWith s .tableFull (.tableFull .table s.endedCount)
            else
              let n := (s.supersede i).newJobNumber
              let t := s.submitFrame i e source dest
              answerOk t
                (.submitted n (t.jobState n .waiting) (bandsOf (s.stream i).config.outHeight) (s.skipCount i))

/-- SUBMIT FRAME (R109 to R112). -/
def execSubmitFrame (h : Hdr) (stream : Field StreamId) (seq : Nat) (source dest : Descriptor) (s : State) : Result :=
  request .submitFrame h (ownSubmitFrame stream seq source dest) s

/-! ### QUERY JOB and CANCEL JOB -/

/-- R113, R114: the entry of a number, when it was submitted on the asking port. -/
def State.ownJob (s : State) (p : Port) (n : Nat) : Option Job :=
  match s.findJob n with
  | some j => if j.port = p then some j else none
  | none => none

/-- R113. -/
def ownQueryJob (p : Port) (n : Nat) (s : State) : Taken :=
  if n = 0 then refuse s .badField
  else match s.ownJob p n with
    | none => refuse s .unknownJob
    | some j => answerOk s (.job j)

/-- QUERY JOB (R113). -/
def execQueryJob (h : Hdr) (number : Nat) (s : State) : Result := request .queryJob h (ownQueryJob h.port number) s

/-- R114, R115: the checks in order, then the job ends CANCELLED at once, or its cancellation is marked pending. -/
def ownCancelJob (p : Port) (n : Nat) (s : State) : Taken :=
  if n = 0 then refuse s .badField
  else match s.ownJob p n with
    | none => refuse s .unknownJob
    | some j =>
      match j.state with
      | .ended r => refuseWith s .jobEnded (.ended r)
      | .running => answerOk (s.cancel j) (.cancelled .running true)
      | .queued | .waiting | .suspended | .paused => answerOk (s.cancel j).engineTurn (.cancelled (.ended .cancelled) false)

/-- CANCEL JOB (R114, R115). -/
def execCancelJob (h : Hdr) (number : Nat) (s : State) : Result := request .cancelJob h (ownCancelJob h.port number) s

end Sys2Proof.Machine
end

