-- ==== Sys2Proof/Machine/LensRequests.lean ====
section
/-! DEFINITION. The requests of the Lens Tracker: LENS ATTACHED, LENS DETACHED, LENS STATE, QUERY LENS, SET LENS TIMING
(R43 to R61). -/

namespace Sys2Proof.Machine

/-- R49 steps 1 to 3: the lens is cleared and the history emptied, awaiting exposures are resolved DETACHED, and LENS_CHANGED is
raised. -/
def State.detachLens (s : State) : State :=
  ((s.withTracker { s.tracker with lens := none, history := [] }).detachAll).raiseLensChanged

/-- R47 steps 1 to 4: the count rises, key and firmware are set, the lens is bound, and LENS_CHANGED is raised. -/
def State.attachLens (s : State) (key : LensKey) (firmware : Nat) : State :=
  (s.withTracker { s.tracker with
    attachCount := s.tracker.attachCount + 1
    lens := some { key := key, firmware := firmware, bound := none } }).rebind.raiseLensChanged

/-- R47, R48: an attach, after every step of a detach when a lens is attached. -/
def ownLensAttached (key : LensKey) (firmware : Nat) (s : State) : Taken :=
  if ¬ (keyInRange key ∧ firmware ≤ 255) then refuse s .badField
  else
    let attachedBefore := s.tracker.lens.isSome
    let t := (if attachedBefore then s.detachLens else s).attachLens key firmware
    answerOk t.engineTurn
      (.attached t.tracker.attachCount t.tracker.bound (if attachedBefore then some s.awaitingCount else none))

/-- LENS ATTACHED (R47, R48). -/
def execLensAttached (h : Hdr) (model converter firmware : Nat) (s : State) : Result :=
  request .lensAttached h (ownLensAttached { model := model, converter := converter } firmware) s

/-- R49: a detach; refused in NO_LENS. -/
def ownLensDetached (s : State) : Taken :=
  match s.tracker.lens with
  | none => refuse s .noLens
  | some _ => answerOk s.detachLens.engineTurn (.detached s.tracker.attachCount s.awaitingCount)

/-- LENS DETACHED (R49). -/
def execLensDetached (h : Hdr) (s : State) : Result := request .lensDetached h ownLensDetached s

/-- R45: the history holds at most 32 reports. -/
def historySize : Nat := 32

/-- R45, R52 step 1: a report joins the end; the oldest leaves a full list. -/
def joinReport (r : Report) (l : List Report) : List Report :=
  (if historySize ≤ l.length then l.drop (l.length - (historySize - 1)) else l) ++ [r]

/-- R50, R51: the ranges of the four fields. -/
def reportInRange (l : LensState) (latency : Nat) : Bool :=
  inRange 10 l.nominal 20000 && decide (l.focus ≤ 4095) && inRange 10 l.aperture 640 && decide (latency ≤ 2000)

/-- R51, check 3: the newest report that makes a report with this stamp stale; an aged newest report makes none. -/
def staleAgainst (history : List Report) (stamp : Stamp) : Option Report :=
  match history.getLast? with
  | some n => if !n.aged && earlier stamp n.stamp then some n else none
  | none => none

/-- R52: the report joins the history and every awaiting exposure is tried again. -/
def State.takeReport (s : State) (r : Report) : State :=
  (s.withTracker { s.tracker with history := joinReport r s.tracker.history }).retryAll

/-- R51, R52: the checks in order, then the report is taken. -/
def ownLensState (l : LensState) (latency : Nat) (stamp : Stamp) (s : State) : Taken :=
  if !reportInRange l latency then refuse s .badField
  else match s.tracker.lens with
    | none => refuse s .noLens
    | some _ =>
      match staleAgainst s.tracker.history stamp with
      | some newest => refuseWith s .staleReport (.stale stamp newest.stamp)
      | none =>
        let t := s.takeReport { stamp := stamp, lens := l, aged := false }
        answerOk t.engineTurn (.report stamp t.tracker.history.length)

/-- LENS STATE (R50 to R52). `transit` is the time from the arrival of the frame's last byte to the taking of the request, which
the spec leaves open (R182; log 6); the stamp is the arrival time less the latency. -/
def execLensState (h : Hdr) (nominal focus aperture latency transit : Nat) (s : State) : Result :=
  request .lensState h
    (ownLensState { nominal := nominal, focus := focus, aperture := aperture } latency
      (stampMinus (stampMinus s.timebase transit) latency)) s

/-- R58: the true focal and the flags at the newest report. -/
def State.lensReading (s : State) : Option LensReading :=
  match s.tracker.lens, s.tracker.history.getLast? with
  | some a, some r =>
    match a.bound.bind s.store.find with
    | some v =>
      let f := trueFocalAt v.nodes r.lens.nominal r.lens.focus
      some { stamp := r.stamp, lens := r.lens, trueFocal := f.1, focus := r.lens.focus, uncalibrated := false, clamped := f.2 }
    | none =>
      some { stamp := r.stamp, lens := r.lens, trueFocal := r.lens.nominal, focus := r.lens.focus, uncalibrated := true,
             clamped := false }
  | _, _ => none

/-- R57: the tracker's state as it stands. -/
def ownQueryLens (s : State) : Taken :=
  answerOk s (.lens s.tracker.lens s.tracker.attachCount s.tracker.holdLimit s.tracker.history.length s.lensReading)

/-- QUERY LENS (R57, R58). -/
def execQueryLens (h : Hdr) (s : State) : Result := request .queryLens h ownQueryLens s

/-- R59: the hold limit takes a value from 1 to 100 ms. -/
def ownSetLensTiming (limit : Nat) (s : State) : Taken :=
  if inRange 1 limit 100 then
    answerOk (s.withTracker { s.tracker with holdLimit := limit }) (.limits s.tracker.holdLimit limit)
  else refuse s .badField

/-- SET LENS TIMING (R59). -/
def execSetLensTiming (h : Hdr) (limit : Nat) (s : State) : Result := request .setLensTiming h (ownSetLensTiming limit) s

end Sys2Proof.Machine
end

