-- ==== Sys2Proof/WellFormed.lean ====
section
/-! DEFINITION. Well-formed commands: the operands a sender can put on the wire or on the pins. The widths are those of the
layouts the spec states (R6, R172, R177, R178), nothing is checked where it states none (log 7). The meanings do not rely on
this check: a number out of range is refused with BAD_FIELD by the rule of its request. -/

namespace Sys2Proof

/-- An unsigned field of two bytes. -/
abbrev fitsWord16 (n : Nat) : Bool := decide (n < 2 ^ 16)

/-- An unsigned field of four bytes. -/
abbrev fitsWord32 (n : Nat) : Bool := decide (n < 2 ^ 32)

/-- A signed field of four bytes in two's complement. -/
abbrev fitsSigned32 (n : Int) : Bool := decide (-(2 ^ 31) ≤ n) && decide (n < 2 ^ 31)

/-- R178, node record: three fields of two bytes and three signed fields of four. -/
def NodeRecord.wf (n : NodeRecord) : Bool :=
  fitsWord16 n.nominal && fitsWord16 n.focus && fitsWord16 n.trueFocal &&
    fitsSigned32 n.k1 && fitsSigned32 n.k2 && fitsSigned32 n.k3

/-- R178, chroma record: an index of one byte and four signed fields of four. -/
def ChromaRecord.wf (c : ChromaRecord) : Bool :=
  decide (c.index < 2 ^ 8) && fitsSigned32 c.terms.redLinear && fitsSigned32 c.terms.redCubic &&
    fitsSigned32 c.terms.blueLinear && fitsSigned32 c.terms.blueCubic

/-- R178, SUBMIT FRAME body: addresses and pitches of four bytes. -/
def Descriptor.wf (d : Descriptor) : Bool := fitsWord32 d.address && fitsWord32 d.pitch

/-- R99: sizes and fill colour samples are from 0 to 65535. -/
def StreamArgs.wf (a : StreamArgs) : Bool :=
  fitsWord16 a.srcWidth && fitsWord16 a.srcHeight && fitsWord16 a.outWidth && fitsWord16 a.outHeight &&
    fitsWord16 a.fill.red && fitsWord16 a.fill.green && fitsWord16 a.fill.blue

/-- R159: an exposure sequence of two bytes, descriptors of four and four. -/
def UrgentArgs.wf (a : UrgentArgs) : Bool :=
  fitsWord16 a.seq && a.source.wf && a.dest.wf

/-- The kinds of R170 that name requests. -/
def kindNamesRequest (kind : Byte) : Bool := decide (1 ≤ kind.toNat) && decide (kind.toNat ≤ 37)

/-- The operands of a command are ones a sender can send. -/
def Instr.wf : Instr → Bool
  | .writeNodes _ nodes => nodes.all NodeRecord.wf
  | .writeChroma _ records => records.all ChromaRecord.wf
  | .configureStream _ _ args => args.wf
  | .submitFrame _ _ seq source dest => fitsWord16 seq && source.wf && dest.wf
  | .submitUrgent _ args => args.wf
  | .queryExposure _ seq => fitsWord16 seq
  | .queryJob _ number => fitsWord16 number
  | .cancelJob _ number => fitsWord16 number
  | .setWindow _ base size => fitsWord32 base && decide (size ≤ 2 ^ 32)
  | .readRecords _ start _ => fitsWord16 start
  | .resolveDeadlineExpiry seq => fitsWord16 seq
  | .unknownKind _ kind _ => !kindNamesRequest kind
  | .invalidOpeningByte _ opening => decide (opening ≠ 0x5A) && decide (opening ≠ 0xA5)
  | .queryTime _ | .fetchNotices _ | .setNoticeMask _ _ | .resetPort _ | .queryLens _ | .resetPart _ => true
  | .lensAttached _ _ _ _ | .lensDetached _ | .lensState _ _ _ _ _ _ | .setLensTiming _ _ => true
  | .openEdit _ _ _ _ _ _ | .writeCrop _ _ | .commitEdit _ | .abortEdit _ => true
  | .readProfile _ _ _ | .readNode _ _ _ | .queryStore _ | .deleteProfile _ _ => true
  | .startStream _ _ | .stopStreamDrain _ _ _ | .stopStreamFlush _ _ | .queryStream _ _ => true
  | .grantMemory _ | .withdrawMemory _ | .setPauseLimit _ _ | .queryMemory _ => true
  | .standby _ | .wake _ | .frameError _ _ | .writeTransactionDiscarded _ | .readTransaction _ _ => true
  | .triggerRisingEdge _ | .triggerFallingEdge _ | .exps | .expe => true
  | .openLimitExpiry | .pauseTimerExpiry | .wakeTimerExpiry | .reportAged => true
  | .bandBoundary | .busError _ | .reset | .resetEnd => true

end Sys2Proof
end

