-- ==== Sys2Proof/Machine/Framing.lean ====
section
/-! DEFINITION. Frames as bytes: the CRC and the envelope check (R167), the layouts the spec states (R177 to R179, R182), and the
command a request frame spells, for the kinds whose bodies are laid out or have no fields. -/

namespace Sys2Proof.Machine

/-! ### Numbers as bytes (R177) -/

/-- R177: a number of `k` bytes, lower byte first. -/
def bytesOf : Nat → Nat → List Byte
  | 0, _ => []
  | k + 1, n => BitVec.ofNat 8 n :: bytesOf k (n / 256)

/-- The number that bytes spell, lower byte first. -/
def natOf : List Byte → Nat
  | [] => 0
  | b :: rest => b.toNat + 256 * natOf rest

/-- R177: a signed number of four bytes, in two's complement. -/
def signedBytes (n : Int) : List Byte := bytesOf 4 (n % 2 ^ 32).toNat

/-- The signed number that four bytes spell. -/
def intOf (l : List Byte) : Int := if natOf l < 2 ^ 31 then (natOf l : Int) else (natOf l : Int) - 2 ^ 32

/-! ### The CRC (R167) -/

/-- One bit of the CRC: shift left, and add the polynomial 0x1021 when the bit shifted out is 1. -/
def crcBit (c : BitVec 16) : BitVec 16 := if c.msb then (c <<< 1) ^^^ 0x1021#16 else c <<< 1

/-- `n` bits of the CRC. -/
def crcBits : Nat → BitVec 16 → BitVec 16
  | 0, c => c
  | n + 1, c => crcBits n (crcBit c)

/-- R167: one byte, most significant bit first. -/
def crcByte (c : BitVec 16) (b : Byte) : BitVec 16 := crcBits 8 (c ^^^ (b.setWidth 16 <<< 8))

/-- R167: initial value 0xFFFF, the result not inverted. -/
def crc (bytes : List Byte) : BitVec 16 := bytes.foldl crcByte 0xFFFF#16

/-- R177: the high byte of the CRC comes before the low byte. -/
def crcTail (bytes : List Byte) : List Byte := [(crc bytes >>> 8).setWidth 8, (crc bytes).setWidth 8]

/-! ### Envelopes (R167, R177) -/

/-- R177: the bytes before the CRC: length, kind, tag, body. -/
def envelopeHead (kind tag : Byte) (body : List Byte) : List Byte := BitVec.ofNat 8 body.length :: kind :: tag :: body

/-- R177: a frame of a kind, a tag and a body. -/
def frameBytes (kind tag : Byte) (body : List Byte) : List Byte :=
  envelopeHead kind tag body ++ crcTail (envelopeHead kind tag body)

/-- R167: the longest body. -/
def maxBody : Nat := 120

/-- What the bytes of a write transaction after its opening byte come to (R166, R167). -/
inductive Received where
  | nothing
  | damaged
  | frame (kind tag : Byte) (body : List Byte)
  deriving DecidableEq, Repr

/-- R167: a frame whose length byte, kind and tag have arrived, checked for completeness and CRC; bytes after it are ignored. -/
def checkFrame (length kind tag : Byte) (rest : List Byte) : Received :=
  let body := rest.take length.toNat
  if maxBody < length.toNat then .damaged
  else if rest.length < length.toNat + 2 then .damaged
  else if (rest.drop length.toNat).take 2 = crcTail (length :: kind :: tag :: body) then .frame kind tag body
  else .damaged

/-- R166, R167: the frame that the bytes of a write transaction form. -/
def receive : List Byte → Received
  | [] => .nothing
  | [_] => .damaged
  | [_, _] => .damaged
  | length :: kind :: tag :: rest => checkFrame length kind tag rest

/-! ### Responses (R168, R177 to R179) -/

/-- R170: the code of an outcome. -/
def Code.number : Code → Nat
  | .ok => 0 | .frameError => 1 | .unknownKind => 2 | .badLength => 3 | .notPermitted => 4 | .badField => 5
  | .editOpen => 6 | .editHeld => 7 | .noEdit => 8 | .order => 9 | .tooMany => 10 | .storeFull => 11 | .keyInUse => 12
  | .invalidProfile => 13 | .slotEmpty => 14 | .noLens => 15 | .staleReport => 16 | .streamState => 17 | .config => 18
  | .unknownExposure => 19 | .exposureUnusable => 20 | .noRecord => 21 | .window => 22 | .tableFull => 23
  | .unknownJob => 24 | .jobEnded => 25 | .engineBusy => 26

/-- R179: the code of a result. -/
def JobResult.code : JobResult → Nat
  | .done => 1 | .uncorrected => 2 | .cancelled => 3 | .skipped => 4 | .failedMemoryFault => 5
  | .failedMemoryTimeout => 6 | .failedExposureDropped => 7 | .failedNoProfile => 8

/-- R179: a notice as an entry of 7 bytes. -/
def noticeBytes : Notice → List Byte
  | .jobEnded job result flags bandsDone =>
    1 :: bytesOf 2 job ++ [BitVec.ofNat 8 result.code, flags.byte] ++ bytesOf 2 bandsDone
  | .lensChanged => 2 :: bytesOf 6 0
  | .profileChanged slots => 3 :: bytesOf 4 slots.toNat ++ bytesOf 2 0
  | .recordAdded seq => 4 :: bytesOf 2 seq ++ bytesOf 4 0
  | .protocolError count => 5 :: bytesOf 2 count ++ bytesOf 4 0

/-- R178: a node record of 18 bytes. -/
def nodeBytes (n : NodeRecord) : List Byte :=
  bytesOf 2 n.nominal ++ bytesOf 2 n.focus ++ bytesOf 2 n.trueFocal ++ signedBytes n.k1 ++ signedBytes n.k2 ++ signedBytes n.k3

/-- R178: a chroma record of 17 bytes. -/
def chromaBytes (c : ChromaRecord) : List Byte :=
  bytesOf 1 c.index ++ signedBytes c.terms.redLinear ++ signedBytes c.terms.redCubic ++ signedBytes c.terms.blueLinear ++
    signedBytes c.terms.blueCubic

/-- R179: byte 18 of a frame record. -/
def recordByte18 (r : FrameRecord) : Nat :=
  (r.ref.map fun x => x.slot.val).getD 0 + 32 * (decide (r.result = .uncorrected)).toNat + 64 * r.ref.isSome.toNat +
    128 * r.lens.isSome.toNat

/-- R179: byte 19 of a frame record. -/
def recordByte19 (r : FrameRecord) : Nat := r.flags.byte.toNat % 128 + 128 * r.firmware.isSome.toNat

/-- R179: a frame record of 28 bytes; an absent field is sent as 0. -/
def recordBytes (r : FrameRecord) : List Byte :=
  bytesOf 2 r.seq ++ bytesOf 2 r.job ++
    bytesOf 2 ((r.key.map LensKey.model).getD 0) ++ bytesOf 1 ((r.key.map LensKey.converter).getD 0) ++
    bytesOf 1 (r.firmware.getD 0) ++
    bytesOf 2 ((r.lens.map LensState.nominal).getD 0) ++ bytesOf 2 ((r.lens.map LensState.focus).getD 0) ++
    bytesOf 2 ((r.lens.map LensState.aperture).getD 0) ++ bytesOf 2 (if r.lens.isSome then r.trueFocal.getD 0 else 0) ++
    bytesOf 2 ((r.ref.map ProfileRef.number).getD 0) ++
    bytesOf 1 (recordByte18 r) ++ bytesOf 1 (recordByte19 r) ++
    bytesOf 2 r.srcWidth ++ bytesOf 2 r.srcHeight ++ bytesOf 4 r.completed.toNat

/-- The room a body has for the fields after the outcome (R177). -/
def answerRoom : Nat := maxBody - 1

/-- The bytes of an answer after the outcome: those of the layouts the spec states, R172 and R177 to R182, and the free value, of no
more bytes than a body has room for, for the others (log 11). -/
def answerBytes : Answer → List Byte
  | .none => []
  | .time now => bytesOf 4 now.toNat
  | .notices left removed => bytesOf 1 left ++ removed.flatMap noticeBytes
  | .masks previous now => [previous.setWidth 8, now.setWidth 8]
  | .node number n c => bytesOf 2 number ++ nodeBytes n ++ (match c with | some c => chromaBytes c | none => [])
  | .records listed after newest l => bytesOf 1 listed ++ bytesOf 1 after ++ bytesOf 2 newest ++ l.flatMap recordBytes
  | a => (Config.answerLayout a).take answerRoom

/-- R177: the body of a response, its outcome code first. -/
def Response.body (r : Response) : List Byte := BitVec.ofNat 8 r.code.number :: answerBytes r.answer

/-- R168, R177: the bytes of a response frame. -/
def Response.bytes (r : Response) : List Byte := frameBytes r.kind r.tag r.body

/-- R169: the empty frame: length 0, kind NONE, tag 0, and its CRC. -/
def emptyFrameBytes : List Byte := frameBytes 0 0 []

/-- R169: the bytes that a read transaction clocks of a frame: 0x00 after the frame's last byte. -/
def clocked (frame : List Byte) : ReadExtent → List Byte
  | .whole => frame
  | .ended n => (frame ++ List.replicate n 0).take n

/-- R166, R169: byte `i` of what a port sent after the opening byte; none beyond what was clocked, and none where the spec does not
give it. In a transaction of 0x00 bytes every byte that was clocked is 0x00. -/
def Sent.byte : Sent → Nat → Option Byte
  | .response frame x, i => (clocked frame.bytes x)[i]?
  | .emptyFrame x, i => (clocked emptyFrameBytes x)[i]?
  | .zeros, _ => some 0
  | .notGiven, _ => none

/-! ### The commands that request frames spell (R170, R177, R178) -/

/-- The list cut into pieces of `k` bytes, `count` of them. -/
def pieces (k : Nat) : Nat → List Byte → List (List Byte)
  | 0, _ => []
  | count + 1, l => l.take k :: pieces k count (l.drop k)

/-- `k` bytes from an offset on. -/
def slice (l : List Byte) (offset k : Nat) : List Byte := (l.drop offset).take k

/-- R178: the node record that 18 bytes spell. -/
def nodeOf (l : List Byte) : NodeRecord :=
  { nominal := natOf (slice l 0 2), focus := natOf (slice l 2 2), trueFocal := natOf (slice l 4 2),
    k1 := intOf (slice l 6 4), k2 := intOf (slice l 10 4), k3 := intOf (slice l 14 4) }

/-- R178: the chroma record that 17 bytes spell. -/
def chromaOf (l : List Byte) : ChromaRecord :=
  { index := natOf (slice l 0 1)
    terms := { redLinear := intOf (slice l 1 4), redCubic := intOf (slice l 5 4), blueLinear := intOf (slice l 9 4),
               blueCubic := intOf (slice l 13 4) } }

/-- R178: the stream byte of SUBMIT FRAME. -/
def streamOf (b : Nat) : Field StreamId := if b = 1 then .is .still else if b = 2 then .is .preview else .invalid

def descriptorOf (l : List Byte) (offset : Nat) : Descriptor :=
  { address := natOf (slice l offset 4), pitch := natOf (slice l (offset + 4) 4) }

/-- R178: the length of a body of one to four records of `k` bytes. -/
def recordsLength (k : Nat) (body : List Byte) : Bool :=
  decide (body.length = k) || decide (body.length = 2 * k) || decide (body.length = 3 * k) || decide (body.length = 4 * k)

/-- R178: the bytes of a node record and of a chroma record. -/
def nodeLength : Nat := 18
def chromaLength : Nat := 17

/-- R178: the bytes of the body of SUBMIT FRAME. -/
def submitLength : Nat := 19

/-- The header of a frame that arrived on a port, in a transaction that is not early. -/
def headerOf (p : Port) (tag : Byte) (badLength : Bool) : Hdr :=
  { port := p, tag := tag, badLength := badLength, early := false }

/-- A request that has no fields: its body is empty, or its length is wrong. -/
def fieldless (p : Port) (tag : Byte) (body : List Byte) : Hdr := headerOf p tag (!body.isEmpty)

/-- R178: WRITE NODES as its body spells it. -/
def writeNodesOf (p : Port) (tag : Byte) (body : List Byte) : Instr :=
  if recordsLength nodeLength body then
    .writeNodes (headerOf p tag false) ((pieces nodeLength (body.length / nodeLength) body).map nodeOf)
  else .writeNodes (headerOf p tag true) []

/-- R178: WRITE CHROMA as its body spells it. -/
def writeChromaOf (p : Port) (tag : Byte) (body : List Byte) : Instr :=
  if recordsLength chromaLength body then
    .writeChroma (headerOf p tag false) ((pieces chromaLength (body.length / chromaLength) body).map chromaOf)
  else .writeChroma (headerOf p tag true) []

/-- R178: SUBMIT FRAME as its body spells it. -/
def submitFrameOf (p : Port) (tag : Byte) (body : List Byte) : Instr :=
  .submitFrame (headerOf p tag (decide (body.length ≠ submitLength))) (streamOf (natOf (slice body 0 1)))
    (natOf (slice body 1 2)) (descriptorOf body 3) (descriptorOf body 11)

/-- The request a good frame spells, for the kinds whose bodies the spec lays out or that have no fields. -/
def requestOf (p : Port) (kind : Nat) (tag : Byte) (body : List Byte) : Option Instr :=
  match kind with
  | 1 => some (.queryTime (fieldless p tag body))
  | 2 => some (.fetchNotices (fieldless p tag body))
  | 3 => some (.setNoticeMask (headerOf p tag (decide (body.length ≠ 1))) (body.headD 0))
  | 4 => some (.resetPort (fieldless p tag body))
  | 5 => some (.queryLens (fieldless p tag body))
  | 6 => some (.resetPart (fieldless p tag body))
  | 8 => some (.lensDetached (fieldless p tag body))
  | 12 => some (writeNodesOf p tag body)
  | 13 => some (writeChromaOf p tag body)
  | 15 => some (.commitEdit (fieldless p tag body))
  | 16 => some (.abortEdit (fieldless p tag body))
  | 19 => some (.queryStore (fieldless p tag body))
  | 26 => some (submitFrameOf p tag body)
  | 30 => some (.grantMemory (fieldless p tag body))
  | 31 => some (.withdrawMemory (fieldless p tag body))
  | 33 => some (.queryMemory (fieldless p tag body))
  | 36 => some (.standby (fieldless p tag body))
  | 37 => some (.wake (fieldless p tag body))
  | _ => none

/-- R166 to R168: the command that the bytes of a write transaction come to, which opened while the port is IDLE; none when no frame byte
arrived, and none for the kinds whose bodies the spec does not lay out (log 7). -/
def commandOf (p : Port) (bytes : List Byte) : Option Instr :=
  match receive bytes with
  | .nothing => none
  | .damaged => some (.frameError { port := p, early := false } bytes)
  | .frame kind tag body =>
    if kindNamesRequest kind then requestOf p kind.toNat tag body else some (.unknownKind { port := p, early := false } kind tag)

end Sys2Proof.Machine
end

