-- ==== Sys2Proof/Machine/ResetEvents.lean ====
section
/-! DEFINITION. A reset of the part: its beginning, at RESET or at the read-out of a RESET PART response, and its end
(R137, R175, R176, R187, and the reset rules of each block). -/

namespace Sys2Proof.Machine

/-- The state of a port during a reset (R165, R176). -/
def PortRec.inReset : PortRec := { PortRec.fresh with link := .reset }

/-- R137: the writes of the band in progress that a reset may have left done. -/
def State.bandWrites (s : State) : List Host.Cell :=
  match s.engine.now with
  | .idle => []
  | .holding _ => []
  | .inBand c =>
    match s.findJob c.job with
    | none => []
    | some j => if j.areasInside then (bandOutput s.frameMem j c.ws c.nextBand).all else []

/-- R137: frame memory at the beginning of a reset: a prefix of the band's writes has been made, of any length (free value,
log 15). -/
def State.memoryAtReset (s : State) : Memory :=
  match s.bandWrites with
  | [] => s.frameMem
  | w :: ws => s.frameMem.writeAll ((w :: ws).take (Config.resetProgress s.freeCount % (ws.length + 2)))

/-- The free values read at the beginning of a reset. -/
def State.resetFreeCount (s : State) : Nat :=
  match s.bandWrites with
  | [] => s.freeCount
  | _ :: _ => s.freeCount + 1

/-- R176: every block returns to its reset values and every port enters RESET. Frame memory is not reset (R137); the queue, the
record of what was sent, and the free value counter are not the part's. -/
def State.beginReset (s : State) (ctl : ResetCtl) : State :=
  { State.reset with
    pending := s.pending
    power := .inReset
    resetCtl := ctl
    ports := { body := PortRec.inReset, mount := PortRec.inReset, transmitter := PortRec.inReset }
    frameMem := s.memoryAtReset
    wire := s.wire
    freeCount := s.resetFreeCount }

/-- RESET (R176): the RESET input is asserted; an internal reset in progress runs on. -/
def execReset (s : State) : Result := .next (s.beginReset { s.resetCtl with input := true })

/-- R175: the internal reset lasts 100 microseconds. -/
def internalReset : Nat := 100

/-- R176, R187: the state at the end of a reset: ports IDLE, Timebase 0, WAKING with wake end 2000. -/
def State.afterReset (s : State) : State :=
  { State.reset with pending := s.pending, frameMem := s.frameMem, wire := s.wire, freeCount := s.freeCount }

/-- RESET END (R176, R187): the RESET input is released, or the internal period is over. A release during an internal period
leaves the part in reset until that period is over (R175; log 16). -/
def execResetEnd (s : State) : Result :=
  match s.power with
  | .inReset =>
    if s.resetCtl.internal = 0 then .next s.afterReset else .next (s.withResetCtl { s.resetCtl with input := false })
  | .active => .next s
  | .standby => .next s
  | .waking _ => .next s

end Sys2Proof.Machine
end

