-- ==== Sys2Proof/Machine/LinkEvents.lean ====
section
/-! DEFINITION. What happens on a port's link beside a good request: damaged frames, unknown kinds, discarded and malformed
transactions, and read transactions (R166 to R169, R175). -/

namespace Sys2Proof.Machine

/-- FRAME ERROR (R167): the bytes that followed the opening byte of a write transaction form no good frame. On an IDLE port it is
answered with kind NONE and tag 0; with no frame byte nothing changes; bytes that form a good frame are not this event (log 10).
A transaction that is early, or on a port that is not IDLE, has no frame checked (R166, R176). -/
def execFrameError (x : Transaction) (bytes : List Byte) (s : State) : Result :=
  if (s.port x.port).link = .idle ∧ x.early = false then
    match receive bytes with
    | .nothing => .next (s.send x.port .zeros)
    | .damaged => .next (takeFrame x.port x.early 0 0 (fun s => refuse s .frameError) s)
    | .frame _ _ _ => .refused .notThisCommand
  else .next ((s.discard x.port x.early).send x.port .zeros)

/-- UNKNOWN KIND (R168): a good frame whose kind names no request; the response echoes kind and tag. -/
def execUnknownKind (x : Transaction) (kind tag : Byte) (s : State) : Result :=
  if kindNamesRequest kind ∧ (s.port x.port).link = .idle ∧ x.early = false then .refused .notThisCommand
  else .next (takeFrame x.port x.early kind tag (fun s => refuse s .unknownKind) s)

/-- WRITE TRANSACTION DISCARDED (R166): a write transaction opens while the port is not IDLE; on an IDLE port there is no such
event, but for an early transaction, which is ignored (log 9). -/
def execWriteTransactionDiscarded (x : Transaction) (s : State) : Result :=
  if (s.port x.port).link = .idle ∧ x.early = false then .next s
  else .next ((s.discard x.port x.early).send x.port .zeros)

/-- INVALID OPENING BYTE (R166): the transaction is ignored whole, and PROTOCOL_ERROR raised, but not in RESET and not for an early
transaction (R176). What the port sends in it is not given. An opening byte of 0x5A or 0xA5 is not this event (log 10). -/
def execInvalidOpeningByte (x : Transaction) (opening : Byte) (s : State) : Result :=
  if s.ignores x.port x.early then .next (s.send x.port .notGiven)
  else if opening = 0x5A ∨ opening = 0xA5 then .refused .notThisCommand
  else .next ((s.raiseProtocolError x.port).send x.port .notGiven)

/-! ### Read transactions (R169) -/

/-- R169: every byte of the frame is sent in this transaction. -/
def coversFrame (x : ReadExtent) (r : Response) : Bool :=
  match x with
  | .whole => true
  | .ended n => decide (r.bytes.length ≤ n)

/-- R169: the response has been read out: it is cleared and the port is IDLE. -/
def State.readOut (s : State) (p : Port) : State := s.setPort p { s.port p with link := .idle, response := none }

/-- R175: this is the response OK to RESET PART. -/
def Response.startsReset (r : Response) : Bool := decide (r.kind = ReqKind.resetPart.byte) && decide (r.code = .ok)

/-- R169, R175: the pending response is sent, and read out when the transaction covers it; the read-out of RESET PART's response
begins the reset of the part. -/
def State.sendResponse (s : State) (p : Port) (x : ReadExtent) (r : Response) : State :=
  let sent := s.send p (.response r x)
  if coversFrame x r then
    let t := sent.readOut p
    if r.startsReset then t.beginReset { t.resetCtl with internal := internalReset } else t
  else sent

/-- READ TRANSACTION (R169): the pending response, an empty frame, or 0x00 bytes in RESET and in an early transaction (R176). -/
def execReadTransaction (x : Transaction) (extent : ReadExtent) (s : State) : Result :=
  if s.ignores x.port x.early then .next (s.send x.port .zeros)
  else match (s.port x.port).link, (s.port x.port).response with
    | .responseWaiting, some r => .next (s.sendResponse x.port extent r)
    | _, _ => .next (s.send x.port (.emptyFrame extent))

end Sys2Proof.Machine
end

