-- ==== Sys2Proof/Machine/MemoryRequests.lean ====
section
/-! DEFINITION. The memory requests: SET WINDOW, GRANT MEMORY, WITHDRAW MEMORY, SET PAUSE LIMIT, QUERY MEMORY (R138 to R147, R152). -/

namespace Sys2Proof.Machine

/-- R140, check 1: base and size are multiples of 64, the size is not 0, and the window ends at or below 2^32. -/
def windowInRange (base size : Nat) : Bool :=
  decide (base % 64 = 0) && decide (size % 64 = 0) && decide (size ≠ 0) && decide (base + size ≤ addressSpace)

/-- R140: the checks in order, then the window is replaced. When memory is granted and entries are unended too, the rule does not
say which of the two the response names: the model names the grant alone (DESIGN CHOICE, log 31). -/
def ownSetWindow (base size : Nat) (s : State) : Taken :=
  if !windowInRange base size then refuse s .badField
  else match s.memPort.grant with
    | .granted => refuseWith s .engineBusy (.windowBusy .granted)
    | .withdrawn =>
      if s.unendedCount ≠ 0 then refuseWith s .engineBusy (.windowBusy (.unended s.unendedCount))
      else
        answerOk (s.withMemPort { s.memPort with window := some { base := base, size := size } })
          (.windowSet { base := base, size := size } s.memPort.window)

/-- SET WINDOW (R140). -/
def execSetWindow (h : Hdr) (base size : Nat) (s : State) : Result := request .setWindow h (ownSetWindow base size) s

/-- R141: the engine's current job and its state. -/
def State.currentJob (s : State) : Option (Nat × JobState) := s.engine.now.job.map fun n => (n, s.jobState n .running)

/-- R134: the paused job's class is STILL and an URGENT job is eligible. -/
def State.yields (s : State) (c : Context) : Bool :=
  (s.findJob c.job).any (fun j => decide (j.cls = .still)) && (s.oldestEligible .urgent).isSome

/-- R134: the paused job resumes, or is suspended for an URGENT job (R131). -/
def State.resumePaused (s : State) (c : Context) : State :=
  if s.yields c then (s.suspend c).engineTurn else s.resume c

/-- R141: a grant taken while memory is WITHDRAWN. -/
def State.grantMemory (s : State) : State :=
  match s.engine.now with
  | .holding c => (s.withMemPort { s.memPort with grant := .granted, pauseTimer := none }).resumePaused c
  | .idle => (s.withMemPort { s.memPort with grant := .granted }).engineTurn
  | .inBand _ => s.withMemPort { s.memPort with grant := .granted }

/-- R141. -/
def ownGrantMemory (s : State) : Taken :=
  match s.memPort.grant with
  | .granted => answerOk s (.granted false s.currentJob)
  | .withdrawn => answerOk s.grantMemory (.granted true s.grantMemory.currentJob)

/-- GRANT MEMORY (R141). -/
def execGrantMemory (h : Hdr) (s : State) : Result := request .grantMemory h ownGrantMemory s

/-- R142: a withdrawal is taken at once, or becomes pending with its response held while a band is in progress. When memory is
WITHDRAWN already the rule does not say whether the response names a job that is PAUSED: the model names none (DESIGN CHOICE, log
35). GRANTED with the engine HOLDING does not arise; it is taken as with the engine IDLE (log 20). -/
def ownWithdrawMemory (s : State) : Taken :=
  match s.memPort.grant with
  | .withdrawn => answerOk s (.withdrawn .atOnce none)
  | .granted =>
    match s.engine.now with
    | .inBand _ => { state := s.withMemPort { s.memPort with pendingWithdrawal := true }, reply := none }
    | .idle | .holding _ => answerOk (s.withMemPort { s.memPort with grant := .withdrawn }) (.withdrawn .atOnce none)

/-- WITHDRAW MEMORY (R142). -/
def execWithdrawMemory (h : Hdr) (s : State) : Result := request .withdrawMemory h ownWithdrawMemory s

/-- R146: the pause limit takes a value from 10 to 2000 ms; a running interval keeps its expiry. -/
def ownSetPauseLimit (limit : Nat) (s : State) : Taken :=
  if inRange 10 limit 2000 then
    answerOk (s.withMemPort { s.memPort with pauseLimit := limit }) (.limits s.memPort.pauseLimit limit)
  else refuse s .badField

/-- SET PAUSE LIMIT (R146). -/
def execSetPauseLimit (h : Hdr) (limit : Nat) (s : State) : Result := request .setPauseLimit h (ownSetPauseLimit limit) s

/-- R152: the port's state as it stands. -/
def ownQueryMemory (s : State) : Taken :=
  answerOk s (.memory s.memPort.window s.memPort.grant s.memPort.pauseLimit s.memPort.pauseTimer s.unendedCount)

/-- QUERY MEMORY (R152). -/
def execQueryMemory (h : Hdr) (s : State) : Result := request .queryMemory h ownQueryMemory s

end Sys2Proof.Machine
end

