-- ==== Sys2Proof/Machine/PortRequests.lean ====
section
/-! DEFINITION. The requests every port may send beside QUERY LENS: QUERY TIME, FETCH NOTICES, SET NOTICE MASK, RESET PORT, and
RESET PART on the Body Port (R172 to R175, R182). -/

namespace Sys2Proof.Machine

/-- R182: the Timebase value at the moment the request is taken. -/
def ownQueryTime (s : State) : Taken := answerOk s (.time s.timebase)

/-- QUERY TIME (R182). -/
def execQueryTime (h : Hdr) (s : State) : Result := request .queryTime h ownQueryTime s

/-- The entry a removed notice frees (R117). -/
def State.freeNoticed (s : State) : Notice → State
  | .jobEnded n _ _ _ => s.freeEntry n
  | .lensChanged | .profileChanged _ | .recordAdded _ | .protocolError _ => s

/-- R173: up to four notices leave a list at once. -/
def fetchLimit : Nat := 4

/-- R173: the oldest notices are removed, and each removed JOB_ENDED frees its entry. -/
def ownFetchNotices (p : Port) (s : State) : Taken :=
  let r := s.port p
  let removed := r.notices.take fetchLimit
  let left := r.notices.drop fetchLimit
  answerOk (removed.foldl State.freeNoticed (s.setPort p { r with notices := left })) (.notices left.length removed)

/-- FETCH NOTICES (R173). -/
def execFetchNotices (h : Hdr) (s : State) : Result := request .fetchNotices h (ownFetchNotices h.port) s

/-- R172: the mask is replaced; a mask with any of bits 5 to 7 set is refused. -/
def ownSetNoticeMask (p : Port) (bits : Byte) (s : State) : Taken :=
  match maskOf bits with
  | none => refuse s .badField
  | some m => answerOk (s.setPort p { s.port p with mask := m }) (.masks (s.port p).mask m)

/-- SET NOTICE MASK (R172). -/
def execSetNoticeMask (h : Hdr) (mask : Byte) (s : State) : Result :=
  request .setNoticeMask h (ownSetNoticeMask h.port mask) s

/-- The unended entries of a port, oldest first (R118). -/
def State.unendedOn (s : State) (p : Port) : List Job := s.jobs.table.filter fun j => decide (j.port = p) && j.unended

/-- R118: the entry's notice is marked suppressed, and then the job is cancelled as by CANCEL JOB. -/
def State.cancelSuppressed (s : State) (j : Job) : State :=
  (s.updateJob j.number fun x => { x with suppressed := true }).cancel j

/-- R174 step 2: the unended jobs of a port are marked suppressed and cancelled, oldest first. -/
def State.cancelPortJobs (s : State) (p : Port) : State := (s.unendedOn p).foldl State.cancelSuppressed s

/-- R174 steps 3 and 4: the notice list is emptied, each removed JOB_ENDED freeing its entry, and the mask becomes empty. -/
def State.emptyNotices (s : State) (p : Port) : State :=
  (s.port p).notices.foldl State.freeNoticed (s.setPort p { s.port p with notices := [], mask := 0 })

/-- R174: a running job of the port has a cancellation pending. -/
def State.cancellationPendingOn (s : State) (p : Port) : Bool :=
  s.jobs.table.any fun j => decide (j.port = p) && decide (j.state = .running) && j.cancelPending

/-- R174, R42, R118: abort the edit, cancel the jobs, empty the list and the mask; on the Mount Port the list and mask alone. -/
def ownResetPort (p : Port) (s : State) : Taken :=
  match p with
  | .mount =>
    let t := s.emptyNotices .mount
    answerOk t (.portReset 0 (s.jobs.table.length - t.jobs.table.length) false false)
  | .body | .transmitter =>
    let t := ((s.abortEdit p).cancelPortJobs p).emptyNotices p
    answerOk t.engineTurn
      (.portReset (s.unendedOn p).length (s.jobs.table.length - t.jobs.table.length) (s.edit p).isSome
        (t.cancellationPendingOn p))

/-- RESET PORT (R174). -/
def execResetPort (h : Hdr) (s : State) : Result := request .resetPort h (ownResetPort h.port) s

/-- RESET PART (R175): the response OK is placed; the reset begins at its read-out, in READ TRANSACTION. -/
def execResetPart (h : Hdr) (s : State) : Result := request .resetPart h (fun s => answerOk s .none) s

end Sys2Proof.Machine
end

