-- ==== Sys2Proof/Machine/PowerRequests.lean ====
section
/-! DEFINITION. STANDBY and WAKE (R183 to R186). -/

namespace Sys2Proof.Machine

/-- R184: refused while any entry is unended; taken by power state otherwise. -/
def ownStandby (s : State) : Taken :=
  if s.unendedCount ≠ 0 then refuseWith s .engineBusy (.unended s.unendedCount)
  else match s.power with
    | .active | .waking _ => answerOk (s.withPower .standby) (.power .standby true)
    | .standby => answerOk s (.power .standby false)
    | .inReset => answerOk s (.power .inReset false)

/-- STANDBY (R184). -/
def execStandby (h : Hdr) (s : State) : Result := request .standby h ownStandby s

/-- R185: a wake begins in STANDBY; nothing changes otherwise. The response carries the power state, with its wake end. -/
def ownWake (s : State) : Taken := answerOk s.askWake (.power s.askWake.power (decide (s.power = .standby)))

/-- WAKE (R185). -/
def execWake (h : Hdr) (s : State) : Result := request .wake h ownWake s

end Sys2Proof.Machine
end

