-- ==== Sys2Proof/Machine/RecordRequests.lean ====
section
/-! DEFINITION. READ RECORDS and SUBMIT URGENT (R157 to R164). -/

namespace Sys2Proof.Machine

/-- R157: the records from the starting sequence on; from the oldest when it is 0. -/
def recordsFrom (start : Nat) (l : List FrameRecord) : List FrameRecord :=
  if start = 0 then l else l.dropWhile fun r => decide (r.seq ≠ start)

/-- R157: the exposure sequence of the newest record. -/
def newestSeq (l : List FrameRecord) : Nat := (l.getLast?.map FrameRecord.seq).getD 0

/-- R157: the checks in order, then up to `count` records. -/
def ownReadRecords (start count : Nat) (s : State) : Taken :=
  if inRange 1 count 4 then
    match recordsFrom start s.records with
    | [] => refuse s .noRecord
    | r :: rest =>
      answerOk s
        (.records s.records.length ((r :: rest).drop count).length (newestSeq s.records) ((r :: rest).take count))
  else refuse s .badField

/-- READ RECORDS (R157). -/
def execReadRecords (h : Hdr) (start count : Nat) (s : State) : Result :=
  request .readRecords h (ownReadRecords start count) s

/-- R162, case 1: the record's own version, present and with the record's key. -/
def Store.ownVersion (st : Store) (key : LensKey) (r : ProfileRef) : Option ProfileRef :=
  match st.find r with
  | some v => if v.key = key then some r else none
  | none => none

/-- R162, case 2: the live version of the record's slot, with the record's key. -/
def Store.currentVersion (st : Store) (key : LensKey) (r : ProfileRef) : Option ProfileRef :=
  match (st.slot r.slot).live with
  | some v => if v.key = key then some { slot := r.slot, number := v.number } else none
  | none => none

/-- R162: the profile reference chosen for a record, and whether REPROFILED is set. -/
def Store.choose (st : Store) (r : FrameRecord) : Option ProfileRef × Bool :=
  match r.ref, r.key with
  | some ref, some key =>
    match st.ownVersion key ref with
    | some own => (some own, false)
    | none => (st.currentVersion key ref, (st.currentVersion key ref).isSome)
  | _, _ => (none, false)

/-- R160 steps 1 to 4: the entry of an urgent job, QUEUED with the lens facts of its record (R161) and its reference (R162). -/
def urgentEntry (x : Submission) (number : Nat) (r : FrameRecord) (chosen : Option ProfileRef × Bool) : Job :=
  let flags := urgentStateFlags r chosen.1
  { x.entry number with
    key := r.key, firmware := r.firmware, lens := r.lens, stateFlags := some flags, ref := chosen.1, state := .queued,
    flags := (ResultFlags.empty.joinState flags).joinReprofiled chosen.2 }

/-- R160: what a SUBMIT URGENT gives its entry. -/
def urgentSubmission (a : UrgentArgs) (g : Geometry) : Submission :=
  { port := .transmitter, cls := .urgent, seq := a.seq, source := a.source, dest := a.dest, geom := g }

/-- R160 steps 1 to 6. -/
def State.submitUrgent (s : State) (a : UrgentArgs) (g : Geometry) (r : FrameRecord) : State :=
  ((s.addEntry (urgentEntry (urgentSubmission a g) s.newJobNumber r (s.store.choose r))).pin
    (s.store.choose r).1).askWake.engineTurn

/-- The present entries of a port. -/
def State.entriesOf (s : State) (p : Port) : List Job := s.jobs.table.filter fun j => decide (j.port = p)

/-- R159, check 4: which limit is met, the allowance named first. -/
def State.urgentLimit (s : State) : Option TableLimit :=
  if transmitterAllowance ≤ (s.entriesOf .transmitter).length then some .allowance
  else if tableSize ≤ s.jobs.table.length then some .table
  else none

/-- R159: the record of a sequence. -/
def State.findRecord (s : State) (q : Nat) : Option FrameRecord := s.records.find? fun r => r.seq = q

/-- R159, check 1: the fields beside the record's sizes. -/
def urgentFieldsOk (a : UrgentArgs) : Bool := decide (a.seq ≠ 0) && (urgentGeometry a 0 0).isSome

/-- R159, checks 3 and 4, and R160, for the geometry with the record's source sizes. The response shows the job's state after
step 6 (log 23). -/
def urgentWith (a : UrgentArgs) (r : FrameRecord) (g : Geometry) (s : State) : Taken :=
  match descriptorFault s.memPort.window a.source a.dest g with
  | some (d, c) => refuseWith s .window (.windowFails d c)
  | none =>
    match s.urgentLimit with
    | some l =>
      refuseWith s .tableFull (.tableFull l ((s.entriesOf .transmitter).filter fun j => j.state.isEnded).length)
    | none =>
      let n := s.newJobNumber
      let t := s.submitUrgent a g r
      answerOk t (.urgent n (t.jobState n .queued) (bandsOf g.outHeight) (s.store.choose r).1 (s.store.choose r).2)

/-- R159, R160: the checks in order, then the submission. -/
def ownSubmitUrgent (a : UrgentArgs) (s : State) : Taken :=
  if urgentFieldsOk a then
    match s.findRecord a.seq with
    | none => refuse s .noRecord
    | some r =>
      match urgentGeometry a r.srcWidth r.srcHeight with
      | none => refuse s .badField
      | some g => urgentWith a r g s
  else refuse s .badField

/-- SUBMIT URGENT (R158 to R164). -/
def execSubmitUrgent (h : Hdr) (args : UrgentArgs) (s : State) : Result :=
  request .submitUrgent h (ownSubmitUrgent args) s

end Sys2Proof.Machine
end

