-- ==== Sys2Proof/Machine/StoreRequests.lean ====
section
/-! DEFINITION. The requests that read the Profile Store or delete a profile: READ PROFILE, READ NODE, QUERY STORE, DELETE PROFILE
(R17 to R21). -/

namespace Sys2Proof.Machine

/-- R18: the live part of a description. -/
def liveEntry (v : Version) : LiveEntry :=
  { number := v.number, key := v.key, cx := v.cx, cy := v.cy, nodeCount := v.nodes.length, chroma := v.chroma.isSome,
    crop := v.crop, blocks := v.cost, pins := v.pins }

/-- R18: one entry of the retired list. -/
def retiredEntry (v : Version) : RetiredEntry := { number := v.number, key := v.key, blocks := v.cost, pins := v.pins }

/-- R18: at most 8 retired versions, from the first retired index. -/
def retiredPage (x : Slot) (first : Nat) : List RetiredEntry := ((x.retired.drop first).take 8).map retiredEntry

def ownReadProfile (slot index : Nat) (s : State) : Taken :=
  match slotOf slot with
  | none => refuse s .badField
  | some i =>
    if index ≤ 19 then
      let x := s.store.slot i
      answerOk s
        (.profile x.lastIssued (x.live.map liveEntry) x.retired.length (retiredPage x index)
          ((s.editHolder i).map fun p => (p, s.stagingCost i)))
    else refuse s .badField

/-- READ PROFILE (R18). -/
def execReadProfile (h : Hdr) (slot index : Nat) (s : State) : Result := request .readProfile h (ownReadProfile slot index) s

/-- R19: the chroma record of a node, when the version has a chroma section. -/
def chromaAt (v : Version) (index : Nat) : Option ChromaRecord :=
  match v.chroma with
  | none => none
  | some l => (l[index]?).map fun t => { index := index, terms := t }

def ownReadNode (slot index : Nat) (s : State) : Taken :=
  match slotOf slot with
  | none => refuse s .badField
  | some i =>
    if 39 < index then refuse s .badField
    else match (s.store.slot i).live with
      | none => refuse s .slotEmpty
      | some v =>
        match v.nodes[index]? with
        | none => refuse s .badField
        | some n => answerOk s (.node v.number n (chromaAt v index))

/-- READ NODE (R19). -/
def execReadNode (h : Hdr) (slot index : Nat) (s : State) : Result := request .readNode h (ownReadNode slot index) s

def ownQueryStore (s : State) : Taken :=
  answerOk s (.storeCounts s.store.used s.store.free s.store.retiredCount s.store.stagingCount)

/-- QUERY STORE (R20). -/
def execQueryStore (h : Hdr) (s : State) : Result := request .queryStore h ownQueryStore s

/-- R21, steps 1 to 4: the live version leaves service, the slot becomes EMPTY, and the hand-offs are made. -/
def State.deleteProfile (s : State) (slot : Fin 32) : State :=
  let x := s.store.slot slot
  (s.withStore { s.store.setSlot slot x.leaveService with used := s.store.used - x.leaveBlocks }).handOff slot

def ownDeleteProfile (slot : Nat) (s : State) : Taken :=
  match slotOf slot with
  | none => refuse s .badField
  | some i =>
    match (s.store.slot i).live with
    | none => refuse s .slotEmpty
    | some _ =>
      match s.editHolder i with
      | some _ => refuse s .editHeld
      | none => answerOk (s.deleteProfile i) .none

/-- DELETE PROFILE (R21). -/
def execDeleteProfile (h : Hdr) (slot : Nat) (s : State) : Result := request .deleteProfile h (ownDeleteProfile slot) s

end Sys2Proof.Machine
end

