-- ==== Sys2Proof/Machine/StreamRequests.lean ====
section
/-! DEFINITION. The stream requests: CONFIGURE STREAM, START STREAM, STOP STREAM in its two modes, QUERY STREAM (R97 to R103). -/

namespace Sys2Proof.Machine

/-- R99: the checks in order, then the configuration is replaced; sizes and fill colour are not checked here. -/
def ownConfigureStream (stream : Field StreamId) (args : StreamArgs) (s : State) : Taken :=
  match stream, configOf args with
  | .is i, some g =>
    match (s.stream i).state with
    | .halted => answerOk (s.setStream i { s.stream i with config := g }) (.configured g.failing)
    | .running => refuse s .streamState
    | .draining => refuse s .streamState
  | _, _ => refuse s .badField

/-- CONFIGURE STREAM (R99). -/
def execConfigureStream (h : Hdr) (stream : Field StreamId) (args : StreamArgs) (s : State) : Result :=
  request .configureStream h (ownConfigureStream stream args) s

/-- R100: the checks in order, then the stream becomes RUNNING. -/
def ownStartStream (stream : Field StreamId) (s : State) : Taken :=
  match stream with
  | .invalid => refuse s .badField
  | .is i =>
    match (s.stream i).state with
    | .running => refuse s .streamState
    | .draining => refuse s .streamState
    | .halted =>
      match (s.stream i).config.failing with
      | some f => refuseWith s .config (.configFails f)
      | none => answerOk (s.streamTo i .running) (.streamState .running)

/-- START STREAM (R100). -/
def execStartStream (h : Hdr) (stream : Field StreamId) (s : State) : Result :=
  request .startStream h (ownStartStream stream) s

/-- R101: DRAIN. `badMode` says that the mode names neither DRAIN nor FLUSH (log 8). -/
def ownStopStreamDrain (stream : Field StreamId) (badMode : Bool) (s : State) : Taken :=
  match stream with
  | .invalid => refuse s .badField
  | .is i =>
    if badMode then refuse s .badField
    else match (s.stream i).state with
      | .halted => refuse s .streamState
      | .draining => answerOk s (.drained .draining (s.unendedOf i).length)
      | .running =>
        let t := (s.streamTo i .draining).drainHalt i
        answerOk t (.drained (t.stream i).state (t.unendedOf i).length)

/-- STOP STREAM, mode DRAIN or a mode outside its values (R101). -/
def execStopStreamDrain (h : Hdr) (stream : Field StreamId) (badMode : Bool) (s : State) : Result :=
  request .stopStream h (ownStopStreamDrain stream badMode) s

/-- R102 steps 1 to 4: the stream becomes DRAINING, its jobs are cancelled in the order of submission, and it becomes HALTED when
none is left unended. -/
def State.flushStream (s : State) (i : StreamId) : State :=
  (((s.streamTo i .draining).unendedOf i).foldl State.cancel (s.streamTo i .draining)).drainHalt i

/-- R102 step 2: the jobs of a stream that a flush ends at once. -/
def State.endableOf (s : State) (i : StreamId) : List Job := (s.unendedOf i).filter fun j => decide (j.state ≠ .running)

/-- R102: FLUSH. -/
def ownStopStreamFlush (stream : Field StreamId) (s : State) : Taken :=
  match stream with
  | .invalid => refuse s .badField
  | .is i =>
    match (s.stream i).state with
    | .halted => refuse s .streamState
    | .running | .draining =>
      let t := s.flushStream i
      answerOk t.engineTurn
        (.flushed (t.stream i).state (s.endableOf i).length ((t.unendedOf i).any fun j => j.cancelPending))

/-- STOP STREAM, mode FLUSH (R102). -/
def execStopStreamFlush (h : Hdr) (stream : Field StreamId) (s : State) : Result :=
  request .stopStream h (ownStopStreamFlush stream) s

/-- R103: the jobs of a stream in one state. -/
def State.countOf (s : State) (i : StreamId) (x : JobState) : Nat :=
  ((s.unendedOf i).filter fun j => decide (j.state = x)).length

/-- R103: the stream as it stands. -/
def ownQueryStream (stream : Field StreamId) (s : State) : Taken :=
  match stream with
  | .invalid => refuse s .badField
  | .is i =>
    answerOk s
      (.stream (s.stream i) (s.stream i).config.valid (s.unendedOf i).length (s.countOf i .queued) (s.countOf i .waiting))

/-- QUERY STREAM (R103). -/
def execQueryStream (h : Hdr) (stream : Field StreamId) (s : State) : Result :=
  request .queryStream h (ownQueryStream stream) s

end Sys2Proof.Machine
end

