-- ==== Sys2Proof/Machine/TimerEvents.lean ====
section
/-! DEFINITION. The expiries of the pause timer and of the wake timer, and the ageing of reports (R45, R147, R185). Each acts only
when what it names is due (log 4). -/

namespace Sys2Proof.Machine

/-- PAUSE TIMER EXPIRY (R147): the timer stops, the paused job ends FAILED_MEMORY_TIMEOUT, and the engine refills. -/
def execPauseTimerExpiry (s : State) : Result :=
  match s.memPort.pauseTimer with
  | none => .next s
  | some t =>
    if reached s.timebase t.expiry then
      .next ((s.withMemPort { s.memPort with pauseTimer := none }).endJob t.job .failedMemoryTimeout).engineTurn
    else .next s

/-- WAKE TIMER EXPIRY (R185): the part becomes ACTIVE and the engine makes a selection. -/
def execWakeTimerExpiry (s : State) : Result :=
  match s.power with
  | .waking wakeEnd => if reached s.timebase wakeEnd then .next (s.withPower .active).engineTurn else .next s
  | .active => .next s
  | .standby => .next s
  | .inReset => .next s

/-- R45: a report becomes aged 2^30 microseconds after its stamp. -/
def ageTime : Nat := 2 ^ 30

/-- R45: the Timebase has reached the report's stamp plus 2^30. -/
def State.ageDue (s : State) (r : Report) : Bool := !r.aged && reached s.timebase (stampPlus r.stamp ageTime)

/-- R45: the reports that are due become aged. -/
def State.ageReports (s : State) : State :=
  s.withTracker { s.tracker with
    history := s.tracker.history.map fun r => if s.ageDue r then { r with aged := true } else r }

/-- REPORT AGED (R45). -/
def execReportAged (s : State) : Result := .next s.ageReports

end Sys2Proof.Machine
end

