-- ==== Sys2Proof/Machine/Dispatch.lean ====
section
/-! DEFINITION. The effect of a command on everything but the queue: one meaning per row of spec/opcode_table.json. -/

namespace Sys2Proof.Machine

def exec (i : Instr) (s : State) : Host.Outcome State Fault Refusal :=
  match i with
  | .queryTime h => Sys2Proof.Machine.execQueryTime h s
  | .fetchNotices h => Sys2Proof.Machine.execFetchNotices h s
  | .setNoticeMask h mask => Sys2Proof.Machine.execSetNoticeMask h mask s
  | .resetPort h => Sys2Proof.Machine.execResetPort h s
  | .queryLens h => Sys2Proof.Machine.execQueryLens h s
  | .resetPart h => Sys2Proof.Machine.execResetPart h s
  | .lensAttached h model converter firmware => Sys2Proof.Machine.execLensAttached h model converter firmware s
  | .lensDetached h => Sys2Proof.Machine.execLensDetached h s
  | .lensState h nominal focus aperture latency transit => Sys2Proof.Machine.execLensState h nominal focus aperture latency transit s
  | .setLensTiming h limit => Sys2Proof.Machine.execSetLensTiming h limit s
  | .openEdit h slot key cx cy carry => Sys2Proof.Machine.execOpenEdit h slot key cx cy carry s
  | .writeNodes h nodes => Sys2Proof.Machine.execWriteNodes h nodes s
  | .writeChroma h records => Sys2Proof.Machine.execWriteChroma h records s
  | .writeCrop h scale => Sys2Proof.Machine.execWriteCrop h scale s
  | .commitEdit h => Sys2Proof.Machine.execCommitEdit h s
  | .abortEdit h => Sys2Proof.Machine.execAbortEdit h s
  | .readProfile h slot index => Sys2Proof.Machine.execReadProfile h slot index s
  | .readNode h slot index => Sys2Proof.Machine.execReadNode h slot index s
  | .queryStore h => Sys2Proof.Machine.execQueryStore h s
  | .deleteProfile h slot => Sys2Proof.Machine.execDeleteProfile h slot s
  | .queryExposure h seq => Sys2Proof.Machine.execQueryExposure h seq s
  | .configureStream h stream args => Sys2Proof.Machine.execConfigureStream h stream args s
  | .startStream h stream => Sys2Proof.Machine.execStartStream h stream s
  | .stopStreamDrain h stream badMode => Sys2Proof.Machine.execStopStreamDrain h stream badMode s
  | .stopStreamFlush h stream => Sys2Proof.Machine.execStopStreamFlush h stream s
  | .queryStream h stream => Sys2Proof.Machine.execQueryStream h stream s
  | .submitFrame h stream seq source dest => Sys2Proof.Machine.execSubmitFrame h stream seq source dest s
  | .queryJob h number => Sys2Proof.Machine.execQueryJob h number s
  | .cancelJob h number => Sys2Proof.Machine.execCancelJob h number s
  | .setWindow h base size => Sys2Proof.Machine.execSetWindow h base size s
  | .grantMemory h => Sys2Proof.Machine.execGrantMemory h s
  | .withdrawMemory h => Sys2Proof.Machine.execWithdrawMemory h s
  | .setPauseLimit h limit => Sys2Proof.Machine.execSetPauseLimit h limit s
  | .queryMemory h => Sys2Proof.Machine.execQueryMemory h s
  | .readRecords h start count => Sys2Proof.Machine.execReadRecords h start count s
  | .submitUrgent h args => Sys2Proof.Machine.execSubmitUrgent h args s
  | .standby h => Sys2Proof.Machine.execStandby h s
  | .wake h => Sys2Proof.Machine.execWake h s
  | .frameError x bytes => Sys2Proof.Machine.execFrameError x bytes s
  | .unknownKind x kind tag => Sys2Proof.Machine.execUnknownKind x kind tag s
  | .writeTransactionDiscarded x => Sys2Proof.Machine.execWriteTransactionDiscarded x s
  | .invalidOpeningByte x opening => Sys2Proof.Machine.execInvalidOpeningByte x opening s
  | .readTransaction x extent => Sys2Proof.Machine.execReadTransaction x extent s
  | .triggerRisingEdge line => Sys2Proof.Machine.execTriggerRisingEdge line s
  | .triggerFallingEdge line => Sys2Proof.Machine.execTriggerFallingEdge line s
  | .exps => Sys2Proof.Machine.execExps s
  | .expe => Sys2Proof.Machine.execExpe s
  | .openLimitExpiry => Sys2Proof.Machine.execOpenLimitExpiry s
  | .resolveDeadlineExpiry seq => Sys2Proof.Machine.execResolveDeadlineExpiry seq s
  | .pauseTimerExpiry => Sys2Proof.Machine.execPauseTimerExpiry s
  | .wakeTimerExpiry => Sys2Proof.Machine.execWakeTimerExpiry s
  | .reportAged => Sys2Proof.Machine.execReportAged s
  | .bandBoundary => Sys2Proof.Machine.execBandBoundary s
  | .busError transfer => Sys2Proof.Machine.execBusError transfer s
  | .reset => Sys2Proof.Machine.execReset s
  | .resetEnd => Sys2Proof.Machine.execResetEnd s

end Sys2Proof.Machine
end

