-- ==== Sys2Proof/Machine/Timebase.lean ====
section
/-! DEFINITION. One microsecond of the Timebase (R180, R181, R187), which the step takes on an empty queue (log 2): the Timebase
advances, and the events that have become due join the queue. -/

namespace Sys2Proof.Machine

/-- The event, when it is due. -/
def dueWhen (due : Bool) (c : Instr) : List Instr := if due then [c] else []

/-- R181: the deadlines that have been reached. -/
def State.deadlinesDue (s : State) : List Instr :=
  s.exposure.log.flatMap fun e =>
    match e.state with
    | .awaiting _ _ deadline => dueWhen (reached s.timebase deadline) (.resolveDeadlineExpiry e.seq)
    | .opened _ | .resolved _ _ _ | .abandoned => []

/-- R181: the pause timer's expiry has been reached. -/
def State.pauseDue (s : State) : Bool :=
  match s.memPort.pauseTimer with
  | some t => reached s.timebase t.expiry
  | none => false

/-- R185: the wake end has been reached. -/
def State.wakeDue (s : State) : Bool :=
  match s.power with
  | .waking wakeEnd => reached s.timebase wakeEnd
  | .active => false
  | .standby => false
  | .inReset => false

/-- R62, R181: everything that is due at the Timebase value as it stands. -/
def State.due (s : State) : List Instr :=
  dueWhen (s.qualified .exps).isSome .exps ++ dueWhen (s.qualified .expe).isSome .expe ++
    dueWhen s.openLimitDue .openLimitExpiry ++ s.deadlinesDue ++ dueWhen s.pauseDue .pauseTimerExpiry ++
    dueWhen s.wakeDue .wakeTimerExpiry ++ dueWhen (s.tracker.history.any s.ageDue) .reportAged

/-- The order a number stands for: each element is put in at one of the places of the ordered rest. -/
def arrange (code : Nat) : List Instr → List Instr
  | [] => []
  | c :: rest =>
    let ordered := arrange (code / (rest.length + 1)) rest
    ordered.take (code % (rest.length + 1)) ++ c :: ordered.drop (code % (rest.length + 1))

/-- R181: what is due joins the queue; the order of several is open (free value, log 3). -/
def State.enqueue (s : State) (events : List Instr) : State :=
  match events with
  | [] => s
  | [c] => s.withPending [c]
  | c :: c' :: rest =>
    (s.withPending (arrange (Config.dueOrder s.freeCount) (c :: c' :: rest))).withFreeCount (s.freeCount + 1)

/-- R175, R187: a microsecond in reset: the Timebase holds 0, and the internal period runs; the reset ends when it is over and
the RESET input is released. -/
def State.resetTick (s : State) : State :=
  let t := s.withResetCtl { s.resetCtl with internal := s.resetCtl.internal - 1 }
  if t.resetCtl.internal = 0 ∧ t.resetCtl.input = false then t.withPending [.resetEnd] else t

/-- R180: a microsecond out of reset. -/
def State.runTick (s : State) : State :=
  let t := s.withTimebase (s.timebase + 1)
  t.enqueue t.due

/-- One microsecond. -/
def State.tick (s : State) : State := if s.inReset then s.resetTick else s.runTick

end Sys2Proof.Machine
end

