-- ==== Sys2Proof/Safety.lean ====
section
/-! DEFINITION. What a good state is: the twelve laws of the part and the agreements its chapters state, as properties of a state;
and the words claims about requests are written in. -/

namespace Sys2Proof.Machine

/-! ### The laws of the part -/

/-- Law 1 (R12): the used count is the sum of the block costs of all versions present, and at most 1536. -/
def Store.counted (st : Store) : Prop := st.used = st.presentBlocks ∧ st.used ≤ storeBlocks

/-- Law 2 (R10): a RETIRED version is present only while its pin count is above zero. -/
def Store.retiredPinned (st : Store) : Prop := ∀ i, ∀ v ∈ (st.slot i).retired, 0 < v.pins

/-- The exposure records and the unended jobs whose profile reference is `r` (R13). -/
def State.holders (s : State) (r : ProfileRef) : Nat :=
  (s.exposure.log.filter fun e => decide (e.ref = some r)).length +
    (s.jobs.table.filter fun j => j.unended && decide (j.ref = some r)).length

/-- Law 3 (R13): the pin count of every version is the number of its holders. -/
def State.pinsCounted (s : State) : Prop :=
  ∀ i : Fin 32, ∀ v : Version, ((s.store.slot i).live = some v ∨ v ∈ (s.store.slot i).retired) →
    v.pins = s.holders { slot := i, number := v.number }

/-- Law 4 (R4): no two slots hold LIVE versions with the same lens key. -/
def Store.keysDistinct (st : Store) : Prop :=
  ∀ i j v w, (st.slot i).live = some v → (st.slot j).live = some w → v.key = w.key → i = j

/-- Law 5 (R1, R23): a slot has a STAGING version exactly while an edit is open on it, and the two ports' edits are on different
slots. -/
def State.editsOwnStaging (s : State) : Prop :=
  (∀ i, (s.store.slot i).staging.isSome = (s.editHolder i).isSome) ∧
    ∀ b t, s.edits.body = some b → s.edits.transmitter = some t → b.slot ≠ t.slot

/-- Law 6 (R53): the binding is what the store answers for the attached lens's key. -/
def State.bindingCurrent (s : State) : Prop := ∀ a, s.tracker.lens = some a → a.bound = s.store.lookup a.key

/-- R45: the stamps of two reports in the order they were taken: the second is not earlier, unless the first is aged. -/
def Report.precedes (a b : Report) : Prop := a.aged = true ∨ earlier b.stamp a.stamp = false

/-- R45: the stamps of a history are nondecreasing from oldest to newest. -/
def stampsOrdered : List Report → Prop
  | [] => True
  | [_] => True
  | a :: b :: rest => a.precedes b ∧ stampsOrdered (b :: rest)

/-- Law 7 (R45): at most 32 reports, none without a lens, stamps nondecreasing. -/
def Tracker.historyOrdered (t : Tracker) : Prop :=
  t.history.length ≤ historySize ∧ (t.lens = none → t.history = []) ∧ stampsOrdered t.history

/-- Law 8 (R63): at most 8 exposure records, of which at most one is OPEN. -/
def ExposureUnit.bounded (x : ExposureUnit) : Prop :=
  x.log.length ≤ logSize ∧ (x.log.filter ExposureRec.isOpen).length ≤ 1

/-- Law 9 (R104), the sizes: at most 12 entries, at most 2 of them of the Transmitter Port. -/
def State.tableBounded (s : State) : Prop :=
  s.jobs.table.length ≤ tableSize ∧ (s.entriesOf .transmitter).length ≤ transmitterAllowance

/-- R107: no two present entries share a job number. -/
def State.numbersDistinct (s : State) : Prop := (s.jobs.table.map Job.number).Nodup

/-- The job of the current context with the state its entry must have (R120): RUNNING with IN_BAND, PAUSED with HOLDING. -/
def EngineState.duty : EngineState → Option (Nat × JobState)
  | .idle => none
  | .inBand c => some (c.job, .running)
  | .holding c => some (c.job, .paused)

/-- The job that the pause timer runs for (R138). -/
def EngineState.held : EngineState → Option Nat
  | .idle => none
  | .inBand _ => none
  | .holding c => some c.job

/-- R120, R121, R144, R145, laws 9 and 10: entries are RUNNING or PAUSED exactly as the current context says and SUSPENDED exactly
when the shadow holds them, the jobs of both contexts are present, the pause timer runs exactly for a PAUSED job, and a shadow is
held only under a current URGENT job, by a STILL job. -/
def State.engineAgrees (s : State) : Prop :=
  (∀ j ∈ s.jobs.table, j.state = .running ↔ s.engine.now.duty = some (j.number, .running)) ∧
  (∀ j ∈ s.jobs.table, j.state = .paused ↔ s.engine.now.duty = some (j.number, .paused)) ∧
  (∀ j ∈ s.jobs.table, j.state = .suspended ↔ s.engine.shadow.map Context.job = some j.number) ∧
  (∀ n, s.engine.now.job = some n → ∃ j ∈ s.jobs.table, j.number = n) ∧
  s.memPort.pauseTimer.map PauseTimer.job = s.engine.now.held ∧
  (∀ c, s.engine.shadow = some c →
    (∃ j ∈ s.jobs.table, j.number = c.job ∧ j.cls = .still) ∧
    ∃ j ∈ s.jobs.table, s.engine.now.job = some j.number ∧ j.cls = .urgent)

/-- Law 11 (R153): at most 32 frame records, no two with the same exposure sequence. -/
def recordsDistinct (l : List FrameRecord) : Prop := l.length ≤ recordSlots ∧ (l.map FrameRecord.seq).Nodup

/-- A notice of a coalesced kind (R171). -/
def Notice.coalesced (n : Notice) : Bool := decide (n.kindBit ≠ 0)

/-- Law 12 (R171), the coalesced kinds: at most one notice of each. -/
def noticesCoalesced (l : List Notice) : Prop := ((l.filter Notice.coalesced).map Notice.kindBit).Nodup

/-! ### Agreements of single blocks -/

/-- R43, R59, R138, R146: the two limits lie in their ranges. -/
def State.limitsInRange (s : State) : Prop :=
  (1 ≤ s.tracker.holdLimit ∧ s.tracker.holdLimit ≤ 100) ∧ 10 ≤ s.memPort.pauseLimit ∧ s.memPort.pauseLimit ≤ 2000

/-- R65, R107: the next sequence number and the next job number are from 1 to 65535. -/
def State.countersInRange (s : State) : Prop :=
  (1 ≤ s.exposure.nextSeq ∧ s.exposure.nextSeq ≤ 65535) ∧ 1 ≤ s.jobs.nextJob ∧ s.jobs.nextJob ≤ 65535

/-- R165: a request is in progress exactly in IN_PROGRESS, a response pends exactly in RESPONSE_WAITING. -/
def PortRec.agrees (r : PortRec) : Prop :=
  (r.request.isSome ↔ r.link = .inProgress) ∧ (r.response.isSome ↔ r.link = .responseWaiting)

/-- R176, R187: a port is in RESET exactly while the part is in reset. -/
def State.portsFollowReset (s : State) : Prop := ∀ p, (s.port p).link = .reset ↔ s.power = .inReset

/-- R120, R141, R142, R165: a band is in progress only while memory is GRANTED and a job is held PAUSED only while it is WITHDRAWN,
a withdrawal is pending only during a band, and the one request in progress on a port is the withdrawal that is pending. -/
def State.memoryAgrees (s : State) : Prop :=
  (∀ c, s.engine.now = .inBand c → s.memPort.grant = .granted) ∧
  (∀ c, s.engine.now = .holding c → s.memPort.grant = .withdrawn) ∧
  (s.memPort.pendingWithdrawal = true → ∃ c, s.engine.now = .inBand c) ∧
  ∀ p, (s.port p).link = .inProgress ↔ p = .body ∧ s.memPort.pendingWithdrawal = true

/-- R98: no job of a HALTED stream is unended, and one of a DRAINING stream is. -/
def State.streamsAgree (s : State) : Prop :=
  ∀ i, ((s.stream i).state = .halted → s.unendedOf i = []) ∧ ((s.stream i).state = .draining → s.unendedOf i ≠ [])

/-- R110, R140: the window ends within the address space, and so do the areas of every job. -/
def State.areasAddressable (s : State) : Prop :=
  (∀ w, s.memPort.window = some w → w.base + w.size ≤ addressSpace) ∧ ∀ j ∈ s.jobs.table, j.areasInside = true

/-- R180: the Timebase holds 0 while the part is in reset. -/
def State.timebaseHeld (s : State) : Prop := s.power = .inReset → s.timebase = 0

/-! ### What commands may change -/

/-- The blocks of the state. -/
inductive Block where
  | queue | timebase | power | resetCtl | store | edits | tracker | exposure | jobs
  | engine | memPort | records | ports | frameMem | wire | freeCount
  deriving DecidableEq, Repr

/-- Two states have the same value of a block. -/
def Block.same (s t : State) : Block → Prop
  | .queue => t.pending = s.pending
  | .timebase => t.timebase = s.timebase
  | .power => t.power = s.power
  | .resetCtl => t.resetCtl = s.resetCtl
  | .store => t.store = s.store
  | .edits => t.edits = s.edits
  | .tracker => t.tracker = s.tracker
  | .exposure => t.exposure = s.exposure
  | .jobs => t.jobs = s.jobs
  | .engine => t.engine = s.engine
  | .memPort => t.memPort = s.memPort
  | .records => t.records = s.records
  | .ports => t.ports = s.ports
  | .frameMem => t.frameMem = s.frameMem
  | .wire => t.wire = s.wire
  | .freeCount => t.freeCount = s.freeCount

/-- The blocks a command may change; every other block is as before when it answers a next state. A reset, and the read-out of a
RESET PART response, may change every block but the queue. -/
def blocksOf : Instr → List Block
  | .queryTime _ | .setNoticeMask _ _ | .queryLens _ | .resetPart _ | .readProfile _ _ _ | .readNode _ _ _
  | .queryStore _ | .queryExposure _ _ | .queryStream _ _ | .queryJob _ _ | .queryMemory _ | .readRecords _ _ _
  | .frameError _ _ | .unknownKind _ _ _ | .writeTransactionDiscarded _ | .invalidOpeningByte _ _ =>
    [.ports, .wire]
  | .fetchNotices _ | .configureStream _ _ _ | .startStream _ _ | .stopStreamDrain _ _ _ =>
    [.jobs, .ports, .wire]
  | .resetPort _ =>
    [.store, .edits, .jobs, .engine, .memPort, .ports, .wire]
  | .lensAttached _ _ _ _ | .lensDetached _ | .lensState _ _ _ _ _ _ =>
    [.store, .tracker, .exposure, .jobs, .engine, .memPort, .ports, .wire]
  | .setLensTiming _ _ =>
    [.tracker, .ports, .wire]
  | .openEdit _ _ _ _ _ _ | .abortEdit _ =>
    [.store, .edits, .ports, .wire]
  | .writeNodes _ _ | .writeChroma _ _ | .writeCrop _ _ =>
    [.store, .ports, .wire]
  | .commitEdit _ =>
    [.store, .edits, .tracker, .ports, .wire]
  | .deleteProfile _ _ =>
    [.store, .tracker, .ports, .wire]
  | .stopStreamFlush _ _ | .cancelJob _ _ | .grantMemory _ =>
    [.store, .jobs, .engine, .memPort, .ports, .wire]
  | .pauseTimerExpiry =>
    [.store, .jobs, .engine, .memPort, .ports]
  | .submitFrame _ _ _ _ _ | .submitUrgent _ _ =>
    [.power, .store, .jobs, .engine, .memPort, .ports, .wire]
  | .wakeTimerExpiry =>
    [.power, .store, .jobs, .engine, .memPort, .ports]
  | .setWindow _ _ _ | .withdrawMemory _ | .setPauseLimit _ _ =>
    [.memPort, .ports, .wire]
  | .standby _ | .wake _ =>
    [.power, .ports, .wire]
  | .readTransaction _ _ =>
    [.timebase, .power, .resetCtl, .store, .edits, .tracker, .exposure, .jobs, .engine, .memPort, .records, .ports, .frameMem, .wire, .freeCount]
  | .triggerRisingEdge _ | .triggerFallingEdge _ | .openLimitExpiry =>
    [.exposure]
  | .exps =>
    [.power, .store, .exposure, .jobs, .engine, .memPort, .ports]
  | .expe | .resolveDeadlineExpiry _ =>
    [.store, .exposure, .jobs, .engine, .memPort, .ports]
  | .reportAged =>
    [.tracker]
  | .bandBoundary =>
    [.store, .jobs, .engine, .memPort, .records, .ports, .frameMem]
  | .busError _ =>
    [.store, .jobs, .engine, .memPort, .ports, .frameMem]
  | .reset =>
    [.timebase, .power, .resetCtl, .store, .edits, .tracker, .exposure, .jobs, .engine, .memPort, .records, .ports, .frameMem, .freeCount]
  | .resetEnd =>
    [.timebase, .power, .resetCtl, .store, .edits, .tracker, .exposure, .jobs, .engine, .memPort, .records, .ports]

/-! ### Requests -/

/-- A request of kind `k` that its port hands to its owner (R168): the port is IDLE, the kind is allowed on it, the length is right,
and its transaction is not early (R176; log 30). -/
def Takes (k : ReqKind) (h : Hdr) (s : State) : Prop :=
  (s.port h.port).link = .idle ∧ k.permitted h.port = true ∧ h.badLength = false ∧ h.early = false

/-- The state with the response to a request placed (R168), kind and tag echoed; the port has sent 0x00 bytes (R166). -/
def State.answered (s : State) (k : ReqKind) (h : Hdr) (c : Code) (a : Answer) : State :=
  (s.place h.port { kind := k.byte, tag := h.tag, code := c, answer := a }).send h.port .zeros

/-- A request of kind `k` is refused with an outcome and the fields of its response, and changes nothing else. -/
def refusedWith (k : ReqKind) (h : Hdr) (s : State) (c : Code) (a : Answer) : Result := .next (s.answered k h c a)

/-! ### Words of the statements -/

/-- The request a command is, with its header (R170); none for an event. A message of other than one to four records has a wrong
length (R168). -/
def asRequest : Instr → Option (ReqKind × Hdr)
  | .queryTime h => some (.queryTime, h) | .fetchNotices h => some (.fetchNotices, h)
  | .setNoticeMask h _ => some (.setNoticeMask, h) | .resetPort h => some (.resetPort, h)
  | .queryLens h => some (.queryLens, h) | .resetPart h => some (.resetPart, h)
  | .lensAttached h _ _ _ => some (.lensAttached, h) | .lensDetached h => some (.lensDetached, h)
  | .lensState h _ _ _ _ _ => some (.lensState, h) | .setLensTiming h _ => some (.setLensTiming, h)
  | .openEdit h _ _ _ _ _ => some (.openEdit, h) | .writeNodes h l => some (.writeNodes, itemsHdr h l)
  | .writeChroma h l => some (.writeChroma, itemsHdr h l) | .writeCrop h _ => some (.writeCrop, h)
  | .commitEdit h => some (.commitEdit, h) | .abortEdit h => some (.abortEdit, h)
  | .readProfile h _ _ => some (.readProfile, h) | .readNode h _ _ => some (.readNode, h)
  | .queryStore h => some (.queryStore, h) | .deleteProfile h _ => some (.deleteProfile, h)
  | .queryExposure h _ => some (.queryExposure, h) | .configureStream h _ _ => some (.configureStream, h)
  | .startStream h _ => some (.startStream, h) | .stopStreamDrain h _ _ => some (.stopStream, h)
  | .stopStreamFlush h _ => some (.stopStream, h) | .queryStream h _ => some (.queryStream, h)
  | .submitFrame h _ _ _ _ => some (.submitFrame, h) | .queryJob h _ => some (.queryJob, h)
  | .cancelJob h _ => some (.cancelJob, h) | .setWindow h _ _ => some (.setWindow, h)
  | .grantMemory h => some (.grantMemory, h) | .withdrawMemory h => some (.withdrawMemory, h)
  | .setPauseLimit h _ => some (.setPauseLimit, h) | .queryMemory h => some (.queryMemory, h)
  | .readRecords h _ _ => some (.readRecords, h) | .submitUrgent h _ => some (.submitUrgent, h)
  | .standby h => some (.standby, h) | .wake h => some (.wake, h)
  | .frameError _ _ | .unknownKind _ _ _ | .writeTransactionDiscarded _ | .invalidOpeningByte _ _
  | .readTransaction _ _ | .triggerRisingEdge _ | .triggerFallingEdge _ | .exps | .expe | .openLimitExpiry
  | .resolveDeadlineExpiry _ | .pauseTimerExpiry | .wakeTimerExpiry | .reportAged | .bandBoundary | .busError _
  | .reset | .resetEnd => none

/-- A request's port is RESPONSE_WAITING with this response, kind and tag echoed (R168). -/
def State.hasAnswer (t : State) (k : ReqKind) (h : Hdr) (c : Code) (a : Answer) : Prop :=
  (t.port h.port).link = .responseWaiting ∧ (t.port h.port).request = none ∧
    (t.port h.port).response = some { kind := k.byte, tag := h.tag, code := c, answer := a }

/-- The notices a port lists. -/
def State.notices (s : State) (p : Port) : List Notice := (s.port p).notices

/-- `i` is the first place where a check fails. -/
def FirstFailing (ok : Nat → Prop) (i : Nat) : Prop := ¬ ok i ∧ ∀ k, k < i → ok k

/-- R6: the node at place `j` stands strictly after the node before it. -/
def InOrderAt (l : List NodeRecord) (j : Nat) : Prop :=
  ∀ a b, 0 < j → l[j - 1]? = some a → l[j]? = some b →
    a.nominal < b.nominal ∨ (a.nominal = b.nominal ∧ a.focus < b.focus)

/-- R6, R8: the ranges of the fields of a node and of the terms of a chroma record. -/
def NodeInRange (n : NodeRecord) : Prop :=
  (10 ≤ n.nominal ∧ n.nominal ≤ 20000) ∧ n.focus ≤ 4095 ∧ (10 ≤ n.trueFocal ∧ n.trueFocal ≤ 20000) ∧
    n.k1.natAbs ≤ 2097152 ∧ n.k2.natAbs ≤ 2097152 ∧ n.k3.natAbs ≤ 2097152

def TermsInRange (c : ChromaTerms) : Prop :=
  c.redLinear.natAbs ≤ 262144 ∧ c.redCubic.natAbs ≤ 262144 ∧ c.blueLinear.natAbs ≤ 262144 ∧ c.blueCubic.natAbs ≤ 262144

/-- R25: the carry source recorded at OPEN EDIT is the slot's live version for as long as the edit is open. -/
def State.carrySourcesCurrent (s : State) : Prop :=
  ∀ p e, s.edit p = some e → e.carrySource = (s.store.slot e.slot).live.map Version.number

/-- R65: no two records of the log share a sequence number. -/
def ExposureUnit.sequencesDistinct (x : ExposureUnit) : Prop := (x.log.map ExposureRec.seq).Nodup

/-- R63, R65: the sequence numbers of the log, from the oldest on, are the numbers up to the next one, 65535 followed by 1. -/
def ExposureUnit.sequencesRun (x : ExposureUnit) : Prop :=
  ∀ i e, x.log[i]? = some e → (1 ≤ e.seq ∧ e.seq ≤ 65535) ∧
    x.nextSeq = (e.seq - 1 + (x.log.length - i)) % 65535 + 1

/-- R13: every profile reference that an exposure record or an unended job holds names a version that is present. -/
def State.refsPresent (s : State) : Prop :=
  ∀ r, 0 < s.holders r → ∃ v, ((s.store.slot r.slot).live = some v ∨ v ∈ (s.store.slot r.slot).retired) ∧
    v.number = r.number

/-- R3: no two present versions of a slot share a version number. -/
def Store.versionsDistinct (st : Store) : Prop := ∀ i, (st.slot i).numbers.Nodup

/-- R105: a job in WAITING_STATE has no profile reference yet. -/
def State.waitingHoldNothing (s : State) : Prop := ∀ j ∈ s.jobs.table, j.state = .waiting → j.ref = none

/-- A record as RESOLVED, with an end stamp and midpoint, a lens state, state flags and a profile reference (R64). -/
def ExposureRec.resolvedAs (e : ExposureRec) (ended m : Stamp) (lens : Option LensState) (flags : StateFlags)
    (ref : Option ProfileRef) : ExposureRec :=
  { e with state := .resolved ended m { lens := lens, flags := flags, ref := ref } }

/-- The job numbers of the JOB_ENDED notices of a list. -/
def endedNotices (l : List Notice) : List Nat :=
  l.filterMap fun n => match n with
    | .jobEnded job _ _ _ => some job
    | .lensChanged | .profileChanged _ | .recordAdded _ | .protocolError _ => none

/-- R104, R117: the JOB_ENDED notices of a port name, once each, exactly the entries of the port that are ENDED. -/
def State.noticesNameEnded (s : State) : Prop :=
  ∀ p, (endedNotices (s.notices p)).Nodup ∧
    ∀ n, n ∈ endedNotices (s.notices p) ↔ ∃ j ∈ s.jobs.table, j.number = n ∧ j.port = p ∧ j.unended = false

end Sys2Proof.Machine
end

