-- ==== Sys2Proof/Certificates/Slice0/Obligations.lean ====
section
/-! DEFINITION. The statements for the provers. Every one speaks of every state unless it says otherwise; `Takes k h s` says that
a request of kind `k` reaches its owner: its port is IDLE, the kind is allowed on it, and the length is right. -/

section

open Sys2Proof Sys2Proof.Machine

/-! ### The step, the ports, and what each command may change -/

/-- One step takes the command at the front of the queue (the model's interface, log 21). -/
def Obligations.StepRunsTheFrontCommand : Prop :=
  ∀ (c : Instr) (rest : List Instr) (s : State), s.pending = c :: rest → step s = exec c (s.withPending rest)

/-- With an empty queue a step is one microsecond (the model's choice, log 2): the Timebase advances (R180), and exactly the
events that are due at its new value join the queue (R62, R181, R185, R45): no other command, and each of them once. -/
def Obligations.EmptyQueueIsOneMicrosecond : Prop :=
  ∀ s : State, s.pending = [] → s.power ≠ .inReset →
    ∃ t, step s = .next t ∧ t.timebase = s.timebase + 1 ∧
      (∀ b : Block, b ≠ .queue → b ≠ .timebase → b ≠ .freeCount → b.same s t) ∧
      (.wakeTimerExpiry ∈ t.pending ↔ ∃ e, s.power = .waking e ∧ reached t.timebase e = true) ∧
      (.pauseTimerExpiry ∈ t.pending ↔ ∃ p, s.memPort.pauseTimer = some p ∧ reached t.timebase p.expiry = true) ∧
      (.openLimitExpiry ∈ t.pending ↔
        ∃ e ∈ s.exposure.log, ∃ l, e.state = .opened l ∧ reached t.timebase l = true) ∧
      (∀ q, .resolveDeadlineExpiry q ∈ t.pending ↔
        ∃ e ∈ s.exposure.log, e.seq = q ∧ ∃ x m d, e.state = .awaiting x m d ∧ reached t.timebase d = true) ∧
      (.exps ∈ t.pending ↔ ∃ x, s.exposure.exps = .qualifying x ∧ reached t.timebase (x + 1) = true) ∧
      (.expe ∈ t.pending ↔ ∃ x, s.exposure.expe = .qualifying x ∧ reached t.timebase (x + 1) = true) ∧
      (.reportAged ∈ t.pending ↔
        ∃ r ∈ s.tracker.history, r.aged = false ∧ reached t.timebase (r.stamp + BitVec.ofNat 32 (2 ^ 30)) = true) ∧
      (∀ c ∈ t.pending, c = .wakeTimerExpiry ∨ c = .pauseTimerExpiry ∨ c = .openLimitExpiry ∨ c = .exps ∨ c = .expe ∨
        c = .reportAged ∨ ∃ q, c = .resolveDeadlineExpiry q) ∧
      (s.exposure.sequencesDistinct → t.pending.Nodup)

/-- R166, R168, R170, R176: what the port does with a request before its owner sees it: ignored in RESET and when its transaction
opened before the last reset was over (log 30), discarded with PROTOCOL_ERROR when a request is in progress or a response waits
(log 9), refused NOT_PERMITTED and then BAD_LENGTH otherwise; the refusal is placed with kind and tag echoed and changes nothing
else. In each case the port sends 0x00 bytes (log 11). -/
def Obligations.PortTurnsRequestsAway : Prop :=
  ∀ (c : Instr) (k : ReqKind) (h : Hdr) (s : State), asRequest c = some (k, h) →
    (h.early = true ∨ (s.port h.port).link = .reset → exec c s = .next (s.send h.port .zeros)) ∧
    (h.early = false → (s.port h.port).link = .inProgress ∨ (s.port h.port).link = .responseWaiting →
      exec c s = .next ((s.raise h.port (.protocolError 1)).send h.port .zeros)) ∧
    (h.early = false → (s.port h.port).link = .idle → k.permitted h.port = false →
      exec c s = refusedWith k h s .notPermitted .none) ∧
    (h.early = false → (s.port h.port).link = .idle → k.permitted h.port = true → h.badLength = true →
      exec c s = refusedWith k h s .badLength .none)

/-- Every command answers a next state, but for the operands that are not those of its row (log 10) and for a band that ends with
no job or outside the address space, which no run reaches. -/
def Obligations.CommandsAnswer : Prop :=
  ∀ (c : Instr) (s : State),
    ((∀ x bytes, c ≠ .frameError x bytes) → (∀ x k t, c ≠ .unknownKind x k t) → (∀ x b, c ≠ .invalidOpeningByte x b) →
      c ≠ .bandBoundary → (∀ x, c ≠ .busError x) → ∃ t, exec c s = .next t) ∧
    (∀ r, exec c s = .refused r → r = .notThisCommand ∧ ∃ x : Transaction, x.early = false ∧ (s.port x.port).link ≠ .reset ∧
      ((∃ bytes k t body, c = .frameError x bytes ∧ receive bytes = .frame k t body) ∨
        (∃ k t, c = .unknownKind x k t ∧ 1 ≤ k.toNat ∧ k.toNat ≤ 37) ∨
        (∃ b, c = .invalidOpeningByte x b ∧ (b = 0x5A ∨ b = 0xA5)))) ∧
    (∀ f, exec c s = .fault f → ∃ x, s.engine.now = .inBand x ∧
      ((f = .contextWithoutJob ∧ s.findJob x.job = none) ∨
        (f = .transferOutsideAddressSpace ∧ ∃ j, s.findJob x.job = some j ∧ j.areasInside = false)))

/-- The frame of every command: when it answers a next state, every block of the state that is not one of its own is as before. -/
def Obligations.CommandsChangeTheirBlocksOnly : Prop :=
  ∀ (c : Instr) (s t : State), exec c s = .next t → ∀ b : Block, b ∉ blocksOf c → b.same s t

/-- R171: a notice joins the end of a list, unless one of its coalesced kind is listed, which is then updated where it stands.
R165, R171, R172: READY is high in IDLE alone; ATTN is high while a response waits or a notice of a kind not in the mask is listed,
and low in RESET; raising a notice of an unmasked kind makes it high, and so does a response that is placed. -/
def Obligations.NoticesCoalesce : Prop :=
  (∀ r : PortRec, (r.ready = true ↔ r.link = .idle) ∧
    (r.attn = true ↔ r.link ≠ .reset ∧
      (r.link = .responseWaiting ∨ ∃ n ∈ r.notices, r.mask.getLsbD n.kindBit = false))) ∧
  (∀ (s : State) (p : Port) (n : Notice), (s.port p).link ≠ .reset → (s.port p).mask.getLsbD n.kindBit = false →
    ((s.raise p n).port p).attn = true) ∧
  (∀ (s : State) (k : ReqKind) (h : Hdr) (c : Code) (a : Answer),
    ((s.answered k h c a).port h.port).attn = true ∧ ((s.answered k h c a).port h.port).ready = false) ∧
  ∀ (l : List Notice),
    (∀ n r f b, raiseNotice (.jobEnded n r f b) l = l ++ [.jobEnded n r f b]) ∧
    (∀ n, n.coalesced = true → (∀ x ∈ l, x.kindBit ≠ n.kindBit) → raiseNotice n l = l ++ [n]) ∧
    (∀ before after, (∀ x ∈ before, x.kindBit ≠ 1) → l = before ++ .lensChanged :: after →
      raiseNotice .lensChanged l = l) ∧
    (∀ before x after new, (∀ y ∈ before, y.kindBit ≠ 2) → l = before ++ .profileChanged x :: after →
      raiseNotice (.profileChanged new) l = before ++ .profileChanged (x ||| new) :: after) ∧
    (∀ before x after new, (∀ y ∈ before, y.kindBit ≠ 3) → l = before ++ .recordAdded x :: after →
      raiseNotice (.recordAdded new) l = before ++ .recordAdded new :: after) ∧
    (∀ before n after, (∀ y ∈ before, y.kindBit ≠ 4) → l = before ++ .protocolError n :: after →
      raiseNotice (.protocolError 1) l = before ++ .protocolError (min 65535 (n + 1)) :: after)

/-! ### Invariants that every step keeps -/

/-- Laws 1 and 5 (R1, R12, R23, R25). -/
def Obligations.StepKeepsBlocksCounted : Prop :=
  ∀ s t : State, s.store.counted → s.editsOwnStaging → s.carrySourcesCurrent → step s = .next t →
    t.store.counted ∧ t.editsOwnStaging ∧ t.carrySourcesCurrent

/-- Laws 2, 4 and 6 (R10, R4, R53): retired versions are pinned, live keys are distinct, and the binding is the store's answer
for the attached lens's key. -/
def Obligations.StepKeepsVersionsAndBinding : Prop :=
  (∀ s t : State, s.store.retiredPinned → step s = .next t → t.store.retiredPinned) ∧
  (∀ s t : State, s.store.keysDistinct → step s = .next t → t.store.keysDistinct) ∧
  ∀ s t : State, s.bindingCurrent → step s = .next t → t.bindingCurrent

/-- Law 3 (R13): the pin count of every version is the number of its holders. The other premises are the agreements it rests on:
references name present versions, version numbers are distinct, waiting jobs hold nothing, and the invariants stated above and
below of the engine, the job table and its sizes, the notices, the exposure log and the binding. -/
def Obligations.StepKeepsPinsCounted : Prop :=
  ∀ s t : State, s.pinsCounted → s.refsPresent → s.store.versionsDistinct → s.store.retiredPinned →
    s.waitingHoldNothing → s.bindingCurrent → s.exposure.bounded → s.exposure.sequencesRun → s.numbersDistinct →
    s.engineAgrees → s.noticesNameEnded → s.tableBounded → step s = .next t →
    t.pinsCounted ∧ t.refsPresent ∧ t.store.versionsDistinct ∧ t.waitingHoldNothing

/-- Law 7 (R45). -/
def Obligations.StepKeepsHistoryOrdered : Prop :=
  ∀ s t : State, s.tracker.historyOrdered → step s = .next t → t.tracker.historyOrdered

/-- Law 8 (R63), and R65: at most 8 records, at most one OPEN; their sequence numbers follow one another up to the next. -/
def Obligations.StepKeepsExposureLogBounded : Prop :=
  ∀ s t : State, s.exposure.bounded → step s = .next t → t.exposure.bounded ∧
    (s.exposure.sequencesRun → 1 ≤ s.exposure.nextSeq → s.exposure.nextSeq ≤ 65535 →
      t.exposure.sequencesRun ∧ t.exposure.sequencesDistinct)

/-- Laws 9, 10 (R104, R107, R120, R121) and R117: the sizes of the job table, distinct job numbers, RUNNING, PAUSED and SUSPENDED
exactly as the engine's contexts say, and the JOB_ENDED notices naming exactly the ENDED entries. R98: with these, a HALTED stream
has no unended job and a DRAINING stream has one. -/
def Obligations.StepKeepsJobsAndEngineAgreed : Prop :=
  ∀ s t : State, s.tableBounded → s.numbersDistinct → s.engineAgrees → s.noticesNameEnded → step s = .next t →
    t.tableBounded ∧ t.numbersDistinct ∧ t.engineAgrees ∧ t.noticesNameEnded ∧ (s.streamsAgree → t.streamsAgree)

/-- Laws 11 and 12 (R153, R171): frame records and coalesced notices. -/
def Obligations.StepKeepsRecordsAndNotices : Prop :=
  (∀ s t : State, recordsDistinct s.records → step s = .next t → recordsDistinct t.records) ∧
  ∀ s t : State, (∀ p, noticesCoalesced (s.notices p)) → step s = .next t → ∀ p, noticesCoalesced (t.notices p)

/-- Frame memory keeps its canonical form: addresses strictly rising, no listed byte equal to an unlisted one (log 12). R110, R140:
the window and the areas of every job stay within the address space, so that no step faults while the engine agrees with the
table. R126, R149: a command leaves every byte of frame memory as it was, but for the output lines of the band in progress. -/
def Obligations.StepKeepsFrameMemorySound : Prop :=
  (∀ s t : State, Memory.wf s.frameMem = true → step s = .next t → Memory.wf t.frameMem = true) ∧
  (∀ s t : State, s.areasAddressable → step s = .next t → t.areasAddressable) ∧
  (∀ s : State, s.areasAddressable → s.engineAgrees → ∀ f, step s ≠ .fault f) ∧
  ∀ (c : Instr) (s t : State), exec c s = .next t → ∀ a : Nat,
    (∀ x j, s.engine.now = .inBand x → s.findJob x.job = some j → ∀ y : Nat,
      16 * x.nextBand ≤ y → y < 16 * x.nextBand + 16 → y < j.geom.outHeight →
        a < j.dest.address + y * j.dest.pitch ∨
          j.dest.address + y * j.dest.pitch + j.geom.outWidth * bytesPerPixel j.geom.format ≤ a) →
    t.frameMem.read a = s.frameMem.read a

/-- R165, R176, R180, R187: each port's record agrees with its link state, ports are in RESET exactly while the part is in reset,
and the Timebase holds 0 there. R120, R141, R142: the grant state, the pending withdrawal and its held response agree with the
engine. R43, R59, R138, R146, R65, R107: the two limits and the two counters stay in their ranges. -/
def Obligations.StepKeepsPortsAndLimits : Prop :=
  (∀ s t : State, s.limitsInRange → s.countersInRange → step s = .next t → t.limitsInRange ∧ t.countersInRange) ∧
  ∀ s t : State, (∀ p, (s.port p).agrees) → s.portsFollowReset → s.timebaseHeld → step s = .next t →
    (∀ p, (t.port p).agrees) ∧ t.portsFollowReset ∧ t.timebaseHeld ∧
      (s.memoryAgrees → s.engineAgrees → s.numbersDistinct → t.memoryAgrees)

/-- The state at the end of a reset (log 1) has the values the chapters give, and satisfies every law. -/
def Obligations.ResetSatisfiesTheLaws : Prop :=
  let s := State.reset
  let unconfigured : Stream := { state := .halted, config := {
    format := .rgb24, srcWidth := 0, srcHeight := 0, outWidth := 0, outHeight := 0, border := .edge
    fill := { red := 0, green := 0, blue := 0 }, policy := .pass, crop := .profile } }
  (s.timebase = 0 ∧ s.power = .waking 2000 ∧ s.tracker.lens = none ∧ s.tracker.attachCount = 0 ∧ s.tracker.holdLimit = 8 ∧
    s.tracker.history = [] ∧ s.exposure.log = [] ∧ s.jobs.table = [] ∧ s.records = [] ∧
    s.jobs.still = unconfigured ∧ s.jobs.preview = unconfigured ∧
    s.edits.body = none ∧ s.edits.transmitter = none ∧ s.memPort.pendingWithdrawal = false ∧ s.memPort.pauseTimer = none ∧
    s.exposure.nextSeq = 1 ∧ s.exposure.exps = .low ∧ s.exposure.expe = .low ∧ s.jobs.nextJob = 1 ∧
    s.engine.now = .idle ∧ s.engine.shadow = none ∧
    s.memPort.window = none ∧ s.memPort.grant = .withdrawn ∧ s.memPort.pauseLimit = 250 ∧ s.store.used = 0 ∧
    (∀ i, (s.store.slot i).lastIssued = 0 ∧ (s.store.slot i).live = none ∧ (s.store.slot i).staging = none ∧
      (s.store.slot i).retired = []) ∧
    ∀ p, (s.port p).link = .idle ∧ (s.port p).mask = 0 ∧ s.notices p = []) ∧
  s.store.counted ∧ s.store.retiredPinned ∧ s.pinsCounted ∧ s.store.keysDistinct ∧ s.editsOwnStaging ∧
    s.carrySourcesCurrent ∧ s.bindingCurrent ∧ s.tracker.historyOrdered ∧ s.exposure.bounded ∧ s.tableBounded ∧
    s.numbersDistinct ∧ s.engineAgrees ∧ s.streamsAgree ∧ s.memoryAgrees ∧ s.areasAddressable ∧ s.noticesNameEnded ∧
    recordsDistinct s.records ∧
    (∀ p, noticesCoalesced (s.notices p)) ∧ Memory.wf s.frameMem = true ∧ (∀ p, (s.port p).agrees) ∧
    s.portsFollowReset ∧ s.timebaseHeld ∧ s.limitsInRange ∧ s.countersInRange ∧ s.refsPresent ∧ s.store.versionsDistinct ∧
    s.waitingHoldNothing ∧ s.exposure.sequencesRun

/-! ### The Profile Store and its requests (R1 to R22) -/

/-- R3: a commit's number is the first, counting upward from the last issued number plus one with 65535 followed by 1, that no
present version of the slot holds. R15: a lookup finds the slot whose live version carries the key, and no slot when there is none.
R10, R13, R14: a pin raises one version's count, a release lowers it, and frees the version with its blocks when it is RETIRED and
the count reaches zero. -/
def Obligations.NumbersLookupsAndPins : Prop :=
  (∀ (st : Store) (key : LensKey), st.keysDistinct →
    (∀ r, st.lookup key = some r ↔ ∃ v, (st.slot r.slot).live = some v ∧ v.key = key ∧ v.number = r.number) ∧
    (st.lookup key = none ↔ ∀ i v, (st.slot i).live = some v → v.key ≠ key)) ∧
  (∀ x : Slot, x.lastIssued ≤ 65535 → x.numbers.length < 65535 →
    ∃ k : Nat, x.nextNumber = (x.lastIssued + k) % 65535 + 1 ∧ x.nextNumber ∉ x.numbers ∧
      ∀ i : Nat, i < k → (x.lastIssued + i) % 65535 + 1 ∈ x.numbers) ∧
  ∀ (st : Store) (i : Fin 32) (v : Version) (before after : List Version),
    let others := ∀ x ∈ before ++ after, x.number ≠ v.number
    let r : ProfileRef := { slot := i, number := v.number }
    ((st.slot i).live = some v → (∀ x ∈ (st.slot i).retired, x.number ≠ v.number) →
      ((st.pin r).slot i).live = some { v with pins := v.pins + 1 } ∧ ((st.pin r).slot i).retired = (st.slot i).retired ∧
        (st.pin r).used = st.used ∧
      ((st.unpin r).slot i).live = some { v with pins := v.pins - 1 } ∧ (st.unpin r).used = st.used ∧
        ((st.unpin r).slot i).retired = (st.slot i).retired) ∧
    ((st.slot i).retired = before ++ v :: after → others → (∀ x, (st.slot i).live = some x → x.number ≠ v.number) →
      (st.pin r).slot i = { st.slot i with retired := before ++ { v with pins := v.pins + 1 } :: after } ∧
      (2 ≤ v.pins → (st.unpin r).used = st.used ∧
        (st.unpin r).slot i = { st.slot i with retired := before ++ { v with pins := v.pins - 1 } :: after }) ∧
      (v.pins = 1 → (st.unpin r).used = st.used - (1 + v.nodes.length + chromaCount v.chroma) ∧
        (st.unpin r).slot i = { st.slot i with retired := before ++ after })) ∧
    ∀ j, j ≠ i → (st.pin r).slot j = st.slot j ∧ (st.unpin r).slot j = st.slot j

/-- R18, R19: READ PROFILE and READ NODE, with their refusals in order. -/
def Obligations.ReadsDescribeTheSlot : Prop :=
  (∀ (h : Hdr) (slot index : Nat) (s : State), Takes .readProfile h s →
    (31 < slot ∨ 19 < index → exec (.readProfile h slot index) s = refusedWith .readProfile h s .badField .none) ∧
    ∀ i : Fin 32, i.val = slot → index ≤ 19 →
      exec (.readProfile h slot index) s = .next (s.answered .readProfile h .ok
        (.profile (s.store.slot i).lastIssued
          ((s.store.slot i).live.map fun v =>
            { number := v.number, key := v.key, cx := v.cx, cy := v.cy, nodeCount := v.nodes.length,
              chroma := v.chroma.isSome, crop := v.crop, blocks := 1 + v.nodes.length + chromaCount v.chroma,
              pins := v.pins })
          (s.store.slot i).retired.length
          ((((s.store.slot i).retired.drop index).take 8).map fun v =>
            { number := v.number, key := v.key, blocks := 1 + v.nodes.length + chromaCount v.chroma, pins := v.pins })
          ((s.editHolder i).map fun p =>
            (p, ((s.store.slot i).staging.map fun v => 1 + v.nodes.length + chromaCount v.chroma).getD 0))))) ∧
  ∀ (h : Hdr) (slot index : Nat) (s : State), Takes .readNode h s →
    (31 < slot ∨ 39 < index → exec (.readNode h slot index) s = refusedWith .readNode h s .badField .none) ∧
    ∀ i : Fin 32, i.val = slot → index ≤ 39 →
      ((s.store.slot i).live = none → exec (.readNode h slot index) s = refusedWith .readNode h s .slotEmpty .none) ∧
      ∀ v, (s.store.slot i).live = some v →
        (v.nodes.length ≤ index → exec (.readNode h slot index) s = refusedWith .readNode h s .badField .none) ∧
        ∀ n, v.nodes[index]? = some n →
          (v.chroma = none → exec (.readNode h slot index) s =
            .next (s.answered .readNode h .ok (.node v.number n none))) ∧
          ∀ l c, v.chroma = some l → l[index]? = some c → exec (.readNode h slot index) s =
            .next (s.answered .readNode h .ok (.node v.number n (some { index := index, terms := c })))

/-- R20: QUERY STORE answers the four counts as they stand, and the counts lie in their ranges. -/
def Obligations.QueryStoreAnswersTheCounts : Prop :=
  ∀ (h : Hdr) (s : State), Takes .queryStore h s →
    exec (.queryStore h) s = .next (s.answered .queryStore h .ok
      (.storeCounts s.store.used (1536 - s.store.used)
        ((List.finRange 32).map fun i => (s.store.slot i).retired.length).sum
        ((List.finRange 32).filter fun i => (s.store.slot i).staging.isSome).length)) ∧
    (s.store.counted → s.store.used + (1536 - s.store.used) = 1536 ∧ s.store.used ≤ 1536) ∧
    (s.editsOwnStaging → ((List.finRange 32).filter fun i => (s.store.slot i).staging.isSome).length ≤ 2) ∧
    (s.pinsCounted → s.store.retiredPinned → s.store.versionsDistinct → s.exposure.bounded → s.tableBounded →
      ((List.finRange 32).map fun i => (s.store.slot i).retired.length).sum ≤ 20)

/-- R21, R16: DELETE PROFILE, its refusals in order, and its steps. -/
def Obligations.DeleteProfileEmptiesTheSlot : Prop :=
  ∀ (h : Hdr) (slot : Nat) (s : State), Takes .deleteProfile h s →
    (31 < slot → exec (.deleteProfile h slot) s = refusedWith .deleteProfile h s .badField .none) ∧
    ∀ i : Fin 32, i.val = slot →
      ((s.store.slot i).live = none → exec (.deleteProfile h slot) s = refusedWith .deleteProfile h s .slotEmpty .none) ∧
      ∀ v, (s.store.slot i).live = some v →
        ((s.editHolder i).isSome → exec (.deleteProfile h slot) s = refusedWith .deleteProfile h s .editHeld .none) ∧
        (s.editHolder i = none → ∃ t, exec (.deleteProfile h slot) s = .next t ∧
          t.hasAnswer .deleteProfile h .ok .none ∧
          t.store.slot i = { s.store.slot i with
            live := none, retired := (s.store.slot i).retired ++ (if 0 < v.pins then [v] else []) } ∧
          (∀ j, j ≠ i → t.store.slot j = s.store.slot j) ∧
          t.store.used = s.store.used - (if 0 < v.pins then 0 else 1 + v.nodes.length + chromaCount v.chroma) ∧
          t.tracker = { s.tracker with lens := s.tracker.lens.map fun a => { a with bound := t.store.lookup a.key } } ∧
          ∀ p, t.notices p =
            let changed := if t.tracker.lens = s.tracker.lens then s.notices p else raiseNotice .lensChanged (s.notices p)
            if p = .mount then changed else raiseNotice (.profileChanged (BitVec.twoPow 32 slot)) changed)

/-! ### Editing (R23 to R42) -/

/-- R26, R27: OPEN EDIT, its refusals in order, and the staging version and edit record it makes. That the carry set is one byte is
the model's choice (log 34). -/
def Obligations.OpenEditMakesAStagingVersion : Prop :=
  ∀ (h : Hdr) (slot : Nat) (key : LensKey) (cx cy : Int) (carry : Byte) (s : State), Takes .openEdit h s →
    let run := exec (.openEdit h slot key cx cy carry) s
    let inRange := slot ≤ 31 ∧ (1 ≤ key.model ∧ key.model ≤ 65535) ∧ key.converter ≤ 255 ∧
      (-512 ≤ cx ∧ cx ≤ 512) ∧ (-512 ≤ cy ∧ cy ≤ 512) ∧ carry.toNat < 8
    (¬ inRange → run = refusedWith .openEdit h s .badField .none) ∧
    (inRange → ∀ i : Fin 32, i.val = slot →
      (∀ e, s.edit h.port = some e → run = refusedWith .openEdit h s .editOpen (.heldSlot e.slot)) ∧
      (s.edit h.port = none →
        (∀ p e, p ≠ h.port → s.edit p = some e → e.slot = i →
          run = refusedWith .openEdit h s .editHeld (.holder p)) ∧
        ((∀ p e, p ≠ h.port → s.edit p = some e → e.slot ≠ i) →
          (1536 ≤ s.store.used → run = refusedWith .openEdit h s .storeFull (.blocks 1 0)) ∧
          (s.store.used < 1536 → ∃ t, run = .next t ∧
            t.hasAnswer .openEdit h .ok (.opened i (s.store.slot i).live.isSome ((s.store.slot i).live.map Version.number)) ∧
            t.store.slot i = { s.store.slot i with
              staging := some { key := key, cx := cx, cy := cy, nodes := [], chroma := none, crop := none } } ∧
            (∀ j, j ≠ i → t.store.slot j = s.store.slot j) ∧ t.store.used = s.store.used + 1 ∧
            t.edit h.port = some {
              slot := i
              carry := { geometry := carry.getLsbD 0, chroma := carry.getLsbD 1, crop := carry.getLsbD 2 }
              carrySource := (s.store.slot i).live.map Version.number } ∧
            (∀ p, p ≠ h.port → t.edit p = s.edit p) ∧ ∀ p, t.notices p = s.notices p))))

/-- R29, R30, R31: WRITE NODES, its refusals in order with the progress, and the nodes appended. -/
def Obligations.WriteNodesAppends : Prop :=
  ∀ (h : Hdr) (nodes : List NodeRecord) (s : State), Takes .writeNodes h s → 1 ≤ nodes.length → nodes.length ≤ 4 →
    let run := exec (.writeNodes h nodes) s
    (s.edit h.port = none → run = refusedWith .writeNodes h s .noEdit .none) ∧
    ∀ e v, s.edit h.port = some e → (s.store.slot e.slot).staging = some v →
      let progress : Progress := { nodes := v.nodes.length, chroma := chromaCount v.chroma, crop := v.crop.isSome,
                                   blocks := 1 + v.nodes.length + chromaCount v.chroma }
      let follows := fun i => InOrderAt (v.nodes ++ nodes) (v.nodes.length + i)
      let ranged := fun i => ∀ n, nodes[i]? = some n → NodeInRange n
      (∀ i, i < nodes.length → FirstFailing follows i →
        run = refusedWith .writeNodes h s .order (.written progress (some (i + 1)) none)) ∧
      ((∀ i, i < nodes.length → follows i) →
        (∀ i, i < nodes.length → FirstFailing ranged i →
          run = refusedWith .writeNodes h s .badField (.written progress (some (i + 1)) none)) ∧
        ((∀ i, i < nodes.length → ranged i) →
          (40 < v.nodes.length + nodes.length →
            run = refusedWith .writeNodes h s .tooMany (.written progress none none)) ∧
          (v.nodes.length + nodes.length ≤ 40 →
            (1536 - s.store.used < nodes.length → run = refusedWith .writeNodes h s .storeFull
              (.written progress none (some (nodes.length, 1536 - s.store.used)))) ∧
            (nodes.length ≤ 1536 - s.store.used → run = .next
              ((s.withStore { s.store.setSlot e.slot
                  { s.store.slot e.slot with staging := some { v with nodes := v.nodes ++ nodes } } with
                  used := s.store.used + nodes.length }).answered .writeNodes h .ok
                (.written { progress with nodes := v.nodes.length + nodes.length,
                                          blocks := progress.blocks + nodes.length } none none))))))

/-- R29, R34: WRITE CROP replaces the staging version's crop scale and takes no block. R29, R32, R33: WRITE CHROMA, its refusals in
order with the progress, and the records appended. -/
def Obligations.WriteCropAndChroma : Prop :=
  (∀ (h : Hdr) (scale : Nat) (s : State), Takes .writeCrop h s →
    let run := exec (.writeCrop h scale) s
    (s.edit h.port = none → run = refusedWith .writeCrop h s .noEdit .none) ∧
    ∀ e v, s.edit h.port = some e → (s.store.slot e.slot).staging = some v →
      let progress : Progress := { nodes := v.nodes.length, chroma := chromaCount v.chroma, crop := v.crop.isSome,
                                   blocks := 1 + v.nodes.length + chromaCount v.chroma }
      (scale < 8192 ∨ 32768 < scale →
        run = refusedWith .writeCrop h s .badField (.written progress (some 1) none)) ∧
      (8192 ≤ scale → scale ≤ 32768 → run = .next
        ((s.withStore (s.store.setSlot e.slot
            { s.store.slot e.slot with staging := some { v with crop := some scale } })).answered .writeCrop h .ok
          (.written { progress with crop := true } none none)))) ∧
  ∀ (h : Hdr) (records : List ChromaRecord) (s : State), Takes .writeChroma h s → 1 ≤ records.length →
    records.length ≤ 4 →
    let run := exec (.writeChroma h records) s
    (s.edit h.port = none → run = refusedWith .writeChroma h s .noEdit .none) ∧
    ∀ e v, s.edit h.port = some e → (s.store.slot e.slot).staging = some v →
      let progress : Progress := { nodes := v.nodes.length, chroma := chromaCount v.chroma, crop := v.crop.isSome,
                                   blocks := 1 + v.nodes.length + chromaCount v.chroma }
      let continues := fun i => ∀ c, records[i]? = some c → c.index = chromaCount v.chroma + i ∧ c.index < v.nodes.length
      let ranged := fun i => ∀ c, records[i]? = some c → TermsInRange c.terms
      (∀ i, i < records.length → FirstFailing continues i →
        run = refusedWith .writeChroma h s .order (.written progress (some (i + 1)) none)) ∧
      ((∀ i, i < records.length → continues i) →
        (∀ i, i < records.length → FirstFailing ranged i →
          run = refusedWith .writeChroma h s .badField (.written progress (some (i + 1)) none)) ∧
        ((∀ i, i < records.length → ranged i) →
          (1536 - s.store.used < records.length → run = refusedWith .writeChroma h s .storeFull
            (.written progress none (some (records.length, 1536 - s.store.used)))) ∧
          (records.length ≤ 1536 - s.store.used → run = .next
            ((s.withStore { s.store.setSlot e.slot
                { s.store.slot e.slot with
                  staging := some { v with chroma := some (v.chroma.getD [] ++ records.map ChromaRecord.terms) } } with
                used := s.store.used + records.length }).answered .writeChroma h .ok
              (.written { progress with chroma := chromaCount v.chroma + records.length,
                                        blocks := progress.blocks + records.length } none none)))))

/-- R28, R35 to R40, R16: COMMIT EDIT. `live` is the slot's live version, which is the carry source (R25); the three `take` say
which sections are carried; the refusals stand in order; then the steps. -/
def Obligations.CommitEditMakesItLive : Prop :=
  ∀ (h : Hdr) (s : State), Takes .commitEdit h s →
    let run := exec (.commitEdit h) s
    (s.edit h.port = none → run = refusedWith .commitEdit h s .noEdit .none) ∧
    ∀ e v live, s.edit h.port = some e → (s.store.slot e.slot).staging = some v → (s.store.slot e.slot).live = live →
      e.carrySource = live.map Version.number →
      let progress : Progress := { nodes := v.nodes.length, chroma := chromaCount v.chroma, crop := v.crop.isSome,
                                   blocks := 1 + v.nodes.length + chromaCount v.chroma }
      let takeNodes := e.carry.geometry && v.nodes.isEmpty && live.isSome
      let takeChroma := e.carry.chroma && v.chroma.isNone && (live.bind Version.chroma).isSome
      let takeCrop := e.carry.crop && v.crop.isNone && (live.bind Version.crop).isSome
      let nodes := if takeNodes then (live.map Version.nodes).getD [] else v.nodes
      let chroma := if takeChroma then live.bind Version.chroma else v.chroma
      let crop := if takeCrop then live.bind Version.crop else v.crop
      let needed := (if takeNodes then nodes.length else 0) + (if takeChroma then chromaCount chroma else 0)
      let noGeometry := v.nodes = [] ∧ takeNodes = false
      let countWrong := v.chroma.isSome ∧ chromaCount v.chroma ≠ v.nodes.length
      let mismatch := takeChroma = true ∧ v.nodes ≠ []
      let keyFree := ∀ i w, i ≠ e.slot → (s.store.slot i).live = some w → w.key ≠ v.key
      (noGeometry → run = refusedWith .commitEdit h s .invalidProfile (.invalid .noGeometry progress)) ∧
      (¬ noGeometry → countWrong → run = refusedWith .commitEdit h s .invalidProfile (.invalid .chromaCount progress)) ∧
      (¬ noGeometry → ¬ countWrong → mismatch →
        run = refusedWith .commitEdit h s .invalidProfile (.invalid .chromaMismatch progress)) ∧
      (¬ noGeometry → ¬ countWrong → ¬ mismatch →
        (∀ i w, i ≠ e.slot → (s.store.slot i).live = some w → w.key = v.key →
          (∀ j x, j < i → j ≠ e.slot → (s.store.slot j).live = some x → x.key ≠ v.key) →
          run = refusedWith .commitEdit h s .keyInUse (.heldSlot i)) ∧
        (keyFree → 1536 - s.store.used < needed →
          run = refusedWith .commitEdit h s .storeFull (.blocks needed (1536 - s.store.used))) ∧
        (keyFree → needed ≤ 1536 - s.store.used →
          let number := (s.store.slot e.slot).nextNumber
          let freed := match live with
            | some w => if w.pins = 0 then 1 + w.nodes.length + chromaCount w.chroma else 0
            | none => 0
          let former := match live with
            | some w => if w.pins = 0 then Former.freed w.number else Former.retired w.number
            | none => Former.none
          ∃ t, run = .next t ∧
            t.hasAnswer .commitEdit h .ok
              (.committed e.slot number former { geometry := takeNodes, chroma := takeChroma, crop := takeCrop }
                nodes.length chroma.isSome crop.isSome (1 + nodes.length + chromaCount chroma) t.store.used) ∧
            t.store.slot e.slot = {
              lastIssued := number
              staging := none
              live := some { number := number, key := v.key, cx := v.cx, cy := v.cy, nodes := nodes, chroma := chroma,
                             crop := crop, pins := 0 }
              retired := (s.store.slot e.slot).retired ++ (live.toList.filter fun w => decide (0 < w.pins)) } ∧
            (∀ j, j ≠ e.slot → t.store.slot j = s.store.slot j) ∧
            t.store.used = s.store.used + needed - freed ∧
            t.edit h.port = none ∧ (∀ p, p ≠ h.port → t.edit p = s.edit p) ∧
            t.tracker = { s.tracker with lens := s.tracker.lens.map fun a => { a with bound := t.store.lookup a.key } } ∧
            ∀ p, t.notices p =
              let changed := if t.tracker.lens = s.tracker.lens then s.notices p else raiseNotice .lensChanged (s.notices p)
              if p = .mount then changed
              else raiseNotice (.profileChanged (BitVec.twoPow 32 e.slot.val)) changed))

/-- R41: ABORT EDIT, and that the slot is then free for an OPEN EDIT from either port. -/
def Obligations.AbortEditFreesTheStaging : Prop :=
  ∀ (h : Hdr) (s : State), Takes .abortEdit h s →
    (s.edit h.port = none → exec (.abortEdit h) s = refusedWith .abortEdit h s .noEdit .none) ∧
    ∀ e v, s.edit h.port = some e → (s.store.slot e.slot).staging = some v → s.editsOwnStaging →
      let cost := 1 + v.nodes.length + chromaCount v.chroma
      ∃ t, exec (.abortEdit h) s = .next t ∧ t.hasAnswer .abortEdit h .ok (.freedBlocks cost) ∧
        t.store.slot e.slot = { s.store.slot e.slot with staging := none } ∧
        (∀ j, j ≠ e.slot → t.store.slot j = s.store.slot j) ∧ t.store.used = s.store.used - cost ∧
        t.edit h.port = none ∧ (∀ p, p ≠ h.port → t.edit p = s.edit p) ∧ t.editHolder e.slot = none ∧
        t.tracker = s.tracker ∧ ∀ p, t.notices p = s.notices p

/-! ### Lens tracking (R43 to R61) -/

/-- R44, R47, R48, R53, R56, R75: LENS ATTACHED in every attach state; a re-attach first takes the steps of a detach, which resolve
the awaiting exposures DETACHED. -/
def Obligations.LensAttachedBindsTheLens : Prop :=
  ∀ (h : Hdr) (model converter firmware : Nat) (s : State), Takes .lensAttached h s →
    let run := exec (.lensAttached h model converter firmware) s
    let inRange := (1 ≤ model ∧ model ≤ 65535) ∧ converter ≤ 255 ∧ firmware ≤ 255
    let key : LensKey := { model := model, converter := converter }
    (¬ inRange → run = refusedWith .lensAttached h s .badField .none) ∧
    (inRange → ∃ t, run = .next t ∧
      t.hasAnswer .lensAttached h .ok (.attached (s.tracker.attachCount + 1) (s.store.lookup key)
        (if s.tracker.lens.isSome then some (s.exposure.log.filter ExposureRec.isAwaiting).length else none)) ∧
      t.tracker.lens = some { key := key, firmware := firmware, bound := s.store.lookup key } ∧
      t.tracker.attachCount = s.tracker.attachCount + 1 ∧ t.tracker.holdLimit = s.tracker.holdLimit ∧
      t.tracker.history = (if s.tracker.lens.isSome then [] else s.tracker.history) ∧
      (∀ p, .lensChanged ∈ t.notices p) ∧
      (s.tracker.lens = none → t.exposure = s.exposure) ∧
      (s.tracker.lens.isSome → (∀ e ∈ t.exposure.log, e.isAwaiting = false) ∧
        (s.exposure.sequencesDistinct →
          t.exposure.log = (s.exposure.log.map fun e => match e.state with
            | .awaiting ended m _ => e.resolvedAs ended m none { StateFlags.empty with detached := true } none
            | .opened _ | .resolved _ _ _ | .abandoned => e) ∧
          ∀ j ∈ t.jobs.table, j.state = .waiting → ∀ e ∈ s.exposure.log, e.isAwaiting = true → e.seq ≠ j.seq)))

/-- R49, R56, R75: LENS DETACHED: the tracker's record, the awaiting exposures resolved DETACHED, the notices. -/
def Obligations.LensDetachedResolvesDetached : Prop :=
  ∀ (h : Hdr) (s : State), Takes .lensDetached h s →
    (s.tracker.lens = none → exec (.lensDetached h) s = refusedWith .lensDetached h s .noLens .none) ∧
    (s.tracker.lens.isSome → s.exposure.sequencesDistinct → ∃ t, exec (.lensDetached h) s = .next t ∧
      t.hasAnswer .lensDetached h .ok
        (.detached s.tracker.attachCount (s.exposure.log.filter ExposureRec.isAwaiting).length) ∧
      t.tracker = { lens := none, attachCount := s.tracker.attachCount, history := [],
                    holdLimit := s.tracker.holdLimit } ∧
      t.exposure.log = (s.exposure.log.map fun e => match e.state with
        | .awaiting ended m _ => e.resolvedAs ended m none { StateFlags.empty with detached := true } none
        | .opened _ | .resolved _ _ _ | .abandoned => e) ∧
      (∀ j ∈ t.jobs.table, j.state = .waiting → ∀ e ∈ s.exposure.log, e.isAwaiting = true → e.seq ≠ j.seq) ∧
      ∀ p, .lensChanged ∈ t.notices p)

/-- R45, R50, R51, R52, R73: LENS STATE, its refusals in order, the report that joins, and the awaiting exposures tried again with it.
The stamp is the arrival time less the latency; `transit` lies between arrival and taking (log 6). -/
def Obligations.LensStateJoinsTheHistory : Prop :=
  ∀ (h : Hdr) (nominal focus aperture latency transit : Nat) (s : State), Takes .lensState h s →
    let run := exec (.lensState h nominal focus aperture latency transit) s
    let inRange := (10 ≤ nominal ∧ nominal ≤ 20000) ∧ focus ≤ 4095 ∧ (10 ≤ aperture ∧ aperture ≤ 640) ∧ latency ≤ 2000
    let stamp := s.timebase - BitVec.ofNat 32 transit - BitVec.ofNat 32 latency
    let report : Report := { stamp := stamp, aged := false,
                             lens := { nominal := nominal, focus := focus, aperture := aperture } }
    let stale := fun n : Report => n.aged = false ∧ earlier stamp n.stamp = true
    (¬ inRange → run = refusedWith .lensState h s .badField .none) ∧
    (inRange → s.tracker.lens = none → run = refusedWith .lensState h s .noLens .none) ∧
    (inRange → s.tracker.lens.isSome →
      (∀ n, s.tracker.history.getLast? = some n → stale n →
        run = refusedWith .lensState h s .staleReport (.stale stamp n.stamp)) ∧
      ((∀ n, s.tracker.history.getLast? = some n → ¬ stale n) → ∃ t, run = .next t ∧
        t.hasAnswer .lensState h .ok (.report stamp t.tracker.history.length) ∧
        t.tracker = { s.tracker with
          history := (s.tracker.history ++ [report]).drop (s.tracker.history.length + 1 - 32) } ∧
        (s.exposure.sequencesDistinct → ∀ e ∈ s.exposure.log, ∀ ended m d, e.state = .awaiting ended m d →
          e.key.isSome → e.attachCount = s.tracker.attachCount →
          (seek t.tracker.history m = .notYet → e ∈ t.exposure.log) ∧
          ∀ l near, seek t.tracker.history m = .found l near →
            e.resolvedAs ended m (some l) { StateFlags.empty with nearest := near, unbound := s.tracker.bound.isNone }
              s.tracker.bound ∈ t.exposure.log)))

/-- R59, R146: SET LENS TIMING and SET PAUSE LIMIT, and that no other command but a reset moves the two limits. A running pause keeps
its expiry, and later ones take the new limit. -/
def Obligations.LimitsAreSetAndKept : Prop :=
  (∀ (h : Hdr) (limit : Nat) (s : State), Takes .setLensTiming h s →
    (limit < 1 ∨ 100 < limit → exec (.setLensTiming h limit) s = refusedWith .setLensTiming h s .badField .none) ∧
    (1 ≤ limit → limit ≤ 100 → exec (.setLensTiming h limit) s =
      .next ((s.withTracker { s.tracker with holdLimit := limit }).answered .setLensTiming h .ok
        (.limits s.tracker.holdLimit limit)))) ∧
  (∀ (h : Hdr) (limit : Nat) (s : State), Takes .setPauseLimit h s →
    (limit < 10 ∨ 2000 < limit → exec (.setPauseLimit h limit) s = refusedWith .setPauseLimit h s .badField .none) ∧
    (10 ≤ limit → limit ≤ 2000 → exec (.setPauseLimit h limit) s =
      .next ((s.withMemPort { s.memPort with pauseLimit := limit }).answered .setPauseLimit h .ok
        (.limits s.memPort.pauseLimit limit)))) ∧
  ∀ (c : Instr) (s t : State), exec c s = .next t → t.power ≠ .inReset → c ≠ .resetEnd →
    ((∀ h limit, c ≠ .setLensTiming h limit) → t.tracker.holdLimit = s.tracker.holdLimit) ∧
    ((∀ h limit, c ≠ .setPauseLimit h limit) → t.memPort.pauseLimit = s.memPort.pauseLimit)

/-! ### Exposures (R62 to R80) -/

/-- R79: QUERY EXPOSURE answers the fields of the record by its state. -/
def Obligations.QueryExposureAnswersTheRecord : Prop :=
  ∀ (h : Hdr) (seq : Nat) (s : State), (s.port h.port).link = .idle → h.badLength = false → h.early = false →
    let run := exec (.queryExposure h seq) s
    (h.port ≠ .body → run = refusedWith .queryExposure h s .notPermitted .none) ∧
    (h.port = .body →
      (seq = 0 → run = refusedWith .queryExposure h s .badField .none) ∧
      (seq ≠ 0 → (∀ e ∈ s.exposure.log, e.seq ≠ seq) → run = refusedWith .queryExposure h s .unknownExposure .none) ∧
      ∀ e ∈ s.exposure.log, seq ≠ 0 → e.seq = seq → s.exposure.sequencesDistinct →
        ∃ x, run = .next (s.answered .queryExposure h .ok (.exposure x s.exposure.log.length)) ∧
          x.seq = e.seq ∧ x.start = e.start ∧ x.attachCount = e.attachCount ∧ x.key = e.key ∧
          let bare := x.lens = none ∧ x.flags = StateFlags.empty ∧ x.ref = none
          (∀ l, e.state = .opened l →
            x.state = .opened ∧ x.ended = none ∧ x.midpoint = none ∧ x.deadline = none ∧ bare) ∧
          (∀ ended m d, e.state = .awaiting ended m d →
            x.state = .awaiting ∧ x.ended = some ended ∧ x.midpoint = some m ∧ x.deadline = some d ∧ bare) ∧
          (∀ ended m r, e.state = .resolved ended m r →
            x.state = .resolved ∧ x.ended = some ended ∧ x.midpoint = some m ∧ x.deadline = none ∧ x.lens = r.lens ∧
              x.flags = r.flags ∧ x.ref = r.ref) ∧
          (e.state = .abandoned →
            x.state = .abandoned ∧ x.ended = none ∧ x.midpoint = none ∧ x.deadline = none ∧ bare))

/-- R62: the edges of the two trigger lines; a pulse that falls before it qualifies is discarded, and in reset no edge is taken. -/
def Obligations.EdgesMoveTheFilters : Prop :=
  ∀ (line : TriggerLine) (s : State),
    (s.power = .inReset →
      exec (.triggerRisingEdge line) s = .next s ∧ exec (.triggerFallingEdge line) s = .next s) ∧
    (s.power ≠ .inReset →
      (s.filter line = .low → ∃ t, exec (.triggerRisingEdge line) s = .next t ∧
        t.filter line = .qualifying s.timebase ∧ (∀ l, l ≠ line → t.filter l = s.filter l) ∧
        t.exposure.log = s.exposure.log ∧ t.exposure.nextSeq = s.exposure.nextSeq) ∧
      (s.filter line ≠ .low → exec (.triggerRisingEdge line) s = .next s) ∧
      ∃ t, exec (.triggerFallingEdge line) s = .next t ∧ t.filter line = .low ∧
        (∀ l, l ≠ line → t.filter l = s.filter l) ∧ t.exposure.log = s.exposure.log ∧
        t.exposure.nextSeq = s.exposure.nextSeq)

/-- R65, R66, R67, R186: EXPS when its pulse has qualified: the OPEN record abandoned, the oldest removed from a full log with its
waiting jobs failed, the new record, and a wake asked in STANDBY, from the Timebase value of this event (log 32). -/
def Obligations.ExpsMakesARecord : Prop :=
  ∀ (x : Stamp) (s : State), s.exposure.exps = .qualifying x → reached s.timebase (x + 1) = true →
    ∃ t, exec .exps s = .next t ∧
      let closed := s.exposure.log.map fun e => if e.isOpen then { e with state := .abandoned } else e
      let record : ExposureRec := { seq := s.exposure.nextSeq, start := x, attachCount := s.tracker.attachCount,
                                    key := s.tracker.lens.map Attached.key, state := .opened (x + 30000000) }
      t.exposure.exps = .high ∧ t.exposure.expe = s.exposure.expe ∧
      t.exposure.nextSeq = (if 65535 ≤ s.exposure.nextSeq then 1 else s.exposure.nextSeq + 1) ∧
      t.exposure.log = (if 8 ≤ closed.length then closed.drop 1 else closed) ++ [record] ∧
      (s.power = .standby → t.power = .waking (s.timebase + 2000)) ∧ (s.power ≠ .standby → t.power = s.power) ∧
      ∀ e rest, closed = e :: rest → 8 ≤ closed.length → e.isAwaiting = true → s.numbersDistinct →
        (∀ j ∈ t.jobs.table, j.state = .waiting → j.seq ≠ e.seq) ∧
        ∀ j ∈ s.jobs.table, j.state = .waiting → j.seq = e.seq → j.suppressed = false →
          .jobEnded j.number .failedExposureDropped j.flags j.bandsDone ∈ t.notices j.port

/-- R69, R70, R72, R76: EXPE when its pulse has qualified: not taken without an OPEN record or before its start; otherwise the
midpoint is set and the record is RESOLVED, or AWAITING_STATE with its deadline. -/
def Obligations.ExpeEndsTheExposure : Prop :=
  ∀ (x : Stamp) (s : State), s.exposure.expe = .qualifying x → reached s.timebase (x + 1) = true →
    ∃ t, exec .expe s = .next t ∧ t.exposure.expe = .high ∧ t.exposure.nextSeq = s.exposure.nextSeq ∧
      ((∀ e ∈ s.exposure.log, e.isOpen = false) → t.exposure.log = s.exposure.log) ∧
      ∀ e before after, s.exposure.log = before ++ e :: after → e.isOpen = true → (∀ y ∈ before, y.isOpen = false) →
        s.exposure.sequencesDistinct →
        (later e.start x = true → t.exposure.log = s.exposure.log) ∧
        (later e.start x = false →
          let m := e.start + BitVec.ofNat 32 ((x - e.start).toNat / 2)
          let resolved := fun (l : Option LensState) (f : StateFlags) (r : Option ProfileRef) =>
            before ++ e.resolvedAs x m l f r :: after
          let away := s.tracker.lens = none ∨ s.tracker.attachCount ≠ e.attachCount
          (e.key = none → t.exposure.log = resolved none { StateFlags.empty with noState := true } none) ∧
          (e.key.isSome → away → t.exposure.log = resolved none { StateFlags.empty with detached := true } none) ∧
          (e.key.isSome → ¬ away →
            (∀ l near, seek s.tracker.history m = .found l near →
              t.exposure.log = resolved (some l)
                { StateFlags.empty with nearest := near, unbound := s.tracker.bound.isNone } s.tracker.bound) ∧
            (seek s.tracker.history m = .notYet → t.exposure.log = before ++
              { e with state := .awaiting x m (x + BitVec.ofNat 32 (1000 * s.tracker.holdLimit)) } :: after)))

/-- R68, R74, R181: the expiries of an open limit and of a resolve deadline, when they have been reached. -/
def Obligations.ExposureTimersExpire : Prop :=
  (∀ s : State, (∃ e ∈ s.exposure.log, ∃ l, e.state = .opened l ∧ reached s.timebase l = true) →
    exec .openLimitExpiry s = .next (s.withExposure { s.exposure with
      log := s.exposure.log.map fun e => if e.isOpen then { e with state := .abandoned } else e })) ∧
  ∀ (s : State) (e : ExposureRec) (before after : List ExposureRec) (ended m d : Stamp),
    s.exposure.log = before ++ e :: after → e.state = .awaiting ended m d → reached s.timebase d = true →
    s.exposure.sequencesDistinct →
    ∃ t, exec (.resolveDeadlineExpiry e.seq) s = .next t ∧
      (∀ r, s.tracker.history.getLast? = some r → t.exposure.log = before ++
        e.resolvedAs ended m (some r.lens) { StateFlags.empty with held := true, unbound := s.tracker.bound.isNone }
          s.tracker.bound :: after) ∧
      (s.tracker.history = [] → t.exposure.log = before ++
        e.resolvedAs ended m none { StateFlags.empty with noState := true } none :: after) ∧
      ∀ j ∈ t.jobs.table, j.state = .waiting → j.seq ≠ e.seq

/-- R71: the four cases of the search for the lens state at a midpoint, an aged report lying at or before it. R77, R111: a job that
takes an exposure's result copies it, holds a pin of its own, and becomes QUEUED. -/
def Obligations.StatesAreSoughtAndHanded : Prop :=
  (∀ (l : List Report) (m : Stamp),
    let early := fun r : Report => r.aged = true ∨ later r.stamp m = false
    (∀ front b a rest, l = front ++ b :: a :: rest → early b → (∀ r ∈ front, early r) → (∀ r ∈ a :: rest, ¬ early r) →
      seek l m = .found (blendReports b a m) false) ∧
    (∀ front b, l = front ++ [b] → (∀ r ∈ front, early r) → early b →
      (b.aged = false → b.stamp = m → seek l m = .found b.lens false) ∧
      (b.aged = true ∨ b.stamp ≠ m → seek l m = .notYet)) ∧
    (∀ a rest, l = a :: rest → (∀ r ∈ a :: rest, ¬ early r) → seek l m = .found a.lens true) ∧
    (l = [] → seek l m = .notYet)) ∧
  ∀ (s : State) (e : ExposureRec) (r : Resolution) (j : Job), s.findJob j.number = some j → s.numbersDistinct →
    let t := State.handTo e r s j.number
    let firmware := if s.tracker.attachCount = e.attachCount then s.tracker.lens.map Attached.firmware else none
    t.findJob j.number = some { j with
      key := e.key, firmware := firmware, lens := r.lens, stateFlags := some r.flags, ref := r.ref, state := .queued
      flags := { j.flags with
        held := j.flags.held || r.flags.held
        nearest := j.flags.nearest || r.flags.nearest
        detached := j.flags.detached || r.flags.detached } } ∧
    (∀ n, n ≠ j.number → t.findJob n = s.findJob n) ∧
    t.store = (match r.ref with | some x => s.store.pin x | none => s.store)

/-! ### Streams and jobs (R97 to R119) -/

/-- R97, R99: CONFIGURE STREAM, its refusals in order, and the configuration replaced with the first field that fails. -/
def Obligations.ConfigureStreamReplaces : Prop :=
  ∀ (h : Hdr) (stream : Sys2Proof.Field StreamId) (args : StreamArgs) (s : State), Takes .configureStream h s →
    let run := exec (.configureStream h stream args) s
    (stream = .invalid ∨ args.format = .invalid ∨ args.border = .invalid ∨ args.policy = .invalid ∨ args.crop = .invalid →
      run = refusedWith .configureStream h s .badField .none) ∧
    ∀ i f b p c, stream = .is i → args.format = .is f → args.border = .is b → args.policy = .is p → args.crop = .is c →
      ((s.stream i).state ≠ .halted → run = refusedWith .configureStream h s .streamState .none) ∧
      ((s.stream i).state = .halted →
        let g : Geometry := { format := f, srcWidth := args.srcWidth, srcHeight := args.srcHeight,
                              outWidth := args.outWidth, outHeight := args.outHeight, border := b, fill := args.fill,
                              policy := p, crop := c }
        let limit := match f with | .rgb24 => 255 | .rgb48 => 65535
        let fillOk := b = .fill → args.fill.red ≤ limit ∧ args.fill.green ≤ limit ∧ args.fill.blue ≤ limit
        let wide := fun n : Nat => 64 ≤ n ∧ n ≤ 8192
        let high := fun n : Nat => 16 ≤ n ∧ n ≤ 6144
        ∃ x, run = .next ((s.setStream i { s.stream i with config := g }).answered .configureStream h .ok
            (.configured x)) ∧
          (x = none ↔ wide g.srcWidth ∧ high g.srcHeight ∧ wide g.outWidth ∧ high g.outHeight ∧ fillOk) ∧
          (x = some .srcWidth ↔ ¬ wide g.srcWidth) ∧
          (x = some .srcHeight ↔ wide g.srcWidth ∧ ¬ high g.srcHeight) ∧
          (x = some .outWidth ↔ wide g.srcWidth ∧ high g.srcHeight ∧ ¬ wide g.outWidth) ∧
          (x = some .outHeight ↔ wide g.srcWidth ∧ high g.srcHeight ∧ wide g.outWidth ∧ ¬ high g.outHeight) ∧
          (x = some .fillColour ↔
            wide g.srcWidth ∧ high g.srcHeight ∧ wide g.outWidth ∧ high g.outHeight ∧ ¬ fillOk))

/-- R100: START STREAM. -/
def Obligations.StartStreamChecksAndRuns : Prop :=
  ∀ (h : Hdr) (stream : Sys2Proof.Field StreamId) (s : State), Takes .startStream h s →
    let run := exec (.startStream h stream) s
    (stream = .invalid → run = refusedWith .startStream h s .badField .none) ∧
    ∀ i, stream = .is i →
      ((s.stream i).state = .running ∨ (s.stream i).state = .draining →
        run = refusedWith .startStream h s .streamState .none) ∧
      ((s.stream i).state = .halted →
        (∀ f, (s.stream i).config.failing = some f → run = refusedWith .startStream h s .config (.configFails f)) ∧
        ((s.stream i).config.failing = none →
          run = .next ((s.setStream i { s.stream i with state := .running }).answered .startStream h .ok
            (.streamState .running))))

/-- R98, R101, R102: STOP STREAM in both modes. -/
def Obligations.StopStreamDrainsOrFlushes : Prop :=
  (∀ (h : Hdr) (stream : Sys2Proof.Field StreamId) (bad : Bool) (s : State), Takes .stopStream h s →
    let run := exec (.stopStreamDrain h stream bad) s
    (stream = .invalid ∨ bad = true → run = refusedWith .stopStream h s .badField .none) ∧
    ∀ i, stream = .is i → bad = false →
      ((s.stream i).state = .halted → run = refusedWith .stopStream h s .streamState .none) ∧
      ((s.stream i).state = .draining →
        run = .next (s.answered .stopStream h .ok (.drained .draining (s.unendedOf i).length))) ∧
      ((s.stream i).state = .running →
        let x : StreamState := if s.unendedOf i = [] then .halted else .draining
        run = .next ((s.setStream i { s.stream i with state := x }).answered .stopStream h .ok
          (.drained x (s.unendedOf i).length)))) ∧
  ∀ (h : Hdr) (stream : Sys2Proof.Field StreamId) (s : State), Takes .stopStream h s →
    let run := exec (.stopStreamFlush h stream) s
    (stream = .invalid → run = refusedWith .stopStream h s .badField .none) ∧
    ∀ i, stream = .is i →
      ((s.stream i).state = .halted → run = refusedWith .stopStream h s .streamState .none) ∧
      ((s.stream i).state ≠ .halted → s.numbersDistinct → s.engineAgrees → ∃ t, run = .next t ∧
        t.hasAnswer .stopStream h .ok (.flushed (t.stream i).state
          ((s.unendedOf i).filter fun j => decide (j.state ≠ .running)).length
          ((s.unendedOf i).any fun j => decide (j.state = .running))) ∧
        (∀ j ∈ t.jobs.table, j.cls = streamClass i → j.unended = true → j.state = .running ∧ j.cancelPending = true) ∧
        (t.stream i).state = (if (s.unendedOf i).any (fun j => decide (j.state = .running)) then .draining else .halted) ∧
        (∀ k, (t.stream k).config = (s.stream k).config) ∧
        ∀ j ∈ s.unendedOf i, j.state ≠ .running → j.suppressed = false →
          .jobEnded j.number .cancelled j.flags j.bandsDone ∈ t.notices j.port)

/-- R110: the checks of one descriptor, in order. -/
def Obligations.WindowChecksStandInOrder : Prop :=
  ∀ (w : Option Window) (d : Descriptor) (width height : Nat) (f : PixelFormat),
    let aligned := d.address % 64 = 0 ∧ d.pitch % 64 = 0
    let wideEnough := width * (match f with | .rgb24 => 3 | .rgb48 => 6) ≤ d.pitch
    let inside := ∃ x, w = some x ∧ x.base ≤ d.address ∧ d.address + d.pitch * height ≤ x.base + x.size
    (windowFault w d width height f = some .alignment ↔ ¬ aligned) ∧
    (windowFault w d width height f = some .pitch ↔ aligned ∧ ¬ wideEnough) ∧
    (windowFault w d width height f = some .area ↔ aligned ∧ wideEnough ∧ ¬ inside) ∧
    (windowFault w d width height f = none ↔ aligned ∧ wideEnough ∧ inside)

/-- R107, R109, R110, R111, R112, R186: SUBMIT FRAME, its refusals in order, and the job it makes. -/
def Obligations.SubmitFrameMakesAJob : Prop :=
  ∀ (h : Hdr) (stream : Sys2Proof.Field StreamId) (seq : Nat) (source dest : Descriptor) (s : State), Takes .submitFrame h s →
    let run := exec (.submitFrame h stream seq source dest) s
    (stream = .invalid ∨ seq = 0 → run = refusedWith .submitFrame h s .badField .none) ∧
    ∀ i, stream = .is i → seq ≠ 0 →
      let g := (s.stream i).config
      let sourceFault := windowFault s.memPort.window source g.srcWidth g.srcHeight g.format
      let destFault := windowFault s.memPort.window dest g.outWidth g.outHeight g.format
      let fits := sourceFault = none ∧ destFault = none
      ((s.stream i).state ≠ .running → run = refusedWith .submitFrame h s .streamState .none) ∧
      ((s.stream i).state = .running →
        ((∀ e ∈ s.exposure.log, e.seq ≠ seq) → run = refusedWith .submitFrame h s .unknownExposure .none) ∧
        ∀ e before after, s.exposure.log = before ++ e :: after → e.seq = seq → (∀ y ∈ before, y.seq ≠ seq) →
          (e.isOpen = true ∨ e.state = .abandoned → run = refusedWith .submitFrame h s .exposureUnusable .none) ∧
          (e.isOpen = false → e.state ≠ .abandoned →
            (∀ x, sourceFault = some x → run = refusedWith .submitFrame h s .window (.windowFails .source x)) ∧
            (∀ x, sourceFault = none → destFault = some x →
              run = refusedWith .submitFrame h s .window (.windowFails .destination x)) ∧
            (fits → 12 ≤ s.jobs.table.length → run = refusedWith .submitFrame h s .tableFull
              (.tableFull .table (s.jobs.table.filter fun j => !j.unended).length)) ∧
            (fits → s.jobs.table.length < 12 → s.numbersDistinct → s.engineAgrees →
              (∀ j ∈ s.jobs.table, j.suppressed = true → j.state = .running) →
              ∃ t n st, run = .next t ∧
              t.hasAnswer .submitFrame h .ok (.submitted n st ((g.outHeight + 15) / 16)
                (if i = .preview then (s.jobs.table.filter fun j => decide (j.cls = .preview) &&
                  (decide (j.state = .queued) || decide (j.state = .waiting))).length else 0)) ∧
              1 ≤ n ∧ (s.jobs.nextJob ≤ 65535 → n ≤ 65535) ∧ (∀ j ∈ s.jobs.table, j.number ≠ n) ∧
              t.jobs.nextJob = (if 65535 ≤ n then 1 else n + 1) ∧
              (∃ j, t.findJob n = some j ∧ j.state = st ∧ j.port = .body ∧ j.cls = streamClass i ∧ j.seq = seq ∧
                j.source = source ∧ j.dest = dest ∧ j.geom = g ∧ j.bandsDone = 0 ∧
                j.bandsTotal = (g.outHeight + 15) / 16 ∧
                (e.isAwaiting = true → j.state = .waiting ∧ j.ref = none ∧ j.lens = none) ∧
                ∀ ended m r, e.state = .resolved ended m r → j.state ≠ .waiting ∧ j.lens = r.lens ∧ j.ref = r.ref ∧
                  j.key = e.key ∧ j.stateFlags = some r.flags ∧
                  j.firmware = (if s.tracker.attachCount = e.attachCount then s.tracker.lens.map Attached.firmware
                    else none)) ∧
              (i = .preview → ∀ j ∈ t.jobs.table, j.cls = .preview → j.number ≠ n →
                j.state ≠ .queued ∧ j.state ≠ .waiting) ∧
              (s.power = .standby → t.power = .waking (s.timebase + 2000)) ∧
              (s.power ≠ .standby → t.power = s.power))))

/-- R113: QUERY JOB. -/
def Obligations.QueryJobAnswersTheEntry : Prop :=
  ∀ (h : Hdr) (n : Nat) (s : State), (s.port h.port).link = .idle → h.badLength = false → h.early = false →
    let run := exec (.queryJob h n) s
    (h.port = .mount → run = refusedWith .queryJob h s .notPermitted .none) ∧
    (h.port ≠ .mount →
      (n = 0 → run = refusedWith .queryJob h s .badField .none) ∧
      (n ≠ 0 → s.findJob n = none → run = refusedWith .queryJob h s .unknownJob .none) ∧
      ∀ j, n ≠ 0 → s.findJob n = some j →
        (j.port ≠ h.port → run = refusedWith .queryJob h s .unknownJob .none) ∧
        (j.port = h.port → run = .next (s.answered .queryJob h .ok (.job j))))

/-- R114, R115, R116, R117, R135, R145: CANCEL JOB by the state of the job. -/
def Obligations.CancelJobEndsOrMarks : Prop :=
  ∀ (h : Hdr) (n : Nat) (s : State), Takes .cancelJob h s →
    let run := exec (.cancelJob h n) s
    (n = 0 → run = refusedWith .cancelJob h s .badField .none) ∧
    (n ≠ 0 → (∀ j, s.findJob n = some j → j.port ≠ h.port) → run = refusedWith .cancelJob h s .unknownJob .none) ∧
    ∀ j, n ≠ 0 → s.findJob n = some j → j.port = h.port →
      (∀ r, j.state = .ended r → run = refusedWith .cancelJob h s .jobEnded (.ended r)) ∧
      (j.state = .running →
        run = .next ((s.updateJob n fun x => { x with cancelPending := true }).answered .cancelJob h .ok
          (.cancelled .running true))) ∧
      (j.state ≠ .running → j.unended = true → s.numbersDistinct → ∃ t, run = .next t ∧
        t.hasAnswer .cancelJob h .ok (.cancelled (.ended .cancelled) false) ∧
        (j.suppressed = false → t.findJob n = some { j with state := .ended .cancelled, cancelPending := false } ∧
          .jobEnded n .cancelled j.flags j.bandsDone ∈ t.notices h.port) ∧
        (j.state = .suspended → s.engineAgrees → t.engine.shadow = none ∧ t.engine.now = s.engine.now) ∧
        (j.state = .paused → s.engineAgrees → t.engine.now.job ≠ some n) ∧
        (s.engineAgrees → t.memPort.pauseTimer.map PauseTimer.job ≠ some n))

/-! ### The engine (R81 to R96, R120 to R137) -/

/-- R123, R124, R125, R136, R185: at the end of a wake the part becomes ACTIVE and the idle engine starts the oldest eligible job
of the highest class, evaluated from its profile or with the identity working set under PASS. -/
def Obligations.WakeEndSelectsAJob : Prop :=
  ∀ (s : State) (wakeEnd : Stamp), s.power = .waking wakeEnd → reached s.timebase wakeEnd = true →
    ∃ t, exec .wakeTimerExpiry s = .next t ∧ t.power = .active ∧
      (s.engine.now ≠ .idle → t = s.withPower .active) ∧
      (s.engine.now = .idle → s.engine.shadow = none →
        (s.memPort.grant = .withdrawn ∨ s.memPort.pendingWithdrawal = true ∨
          (∀ j ∈ s.jobs.table, j.state ≠ .queued) → t = s.withPower .active) ∧
        ∀ before j after, s.memPort.grant = .granted → s.memPort.pendingWithdrawal = false →
          s.jobs.table = before ++ j :: after → j.state = .queued → s.numbersDistinct →
          (∀ x ∈ before, x.cls = j.cls → x.state ≠ .queued) →
          (j.cls ≠ .urgent → ∀ x ∈ s.jobs.table, x.cls = .urgent → x.state ≠ .queued) →
          (j.cls = .preview → ∀ x ∈ s.jobs.table, x.cls = .still → x.state ≠ .queued) →
          (∀ r l v, j.ref = some r → j.lens = some l → s.store.find r = some v →
            let focal := trueFocalAt v.nodes l.nominal l.focus
            t.engine.now = .inBand { job := j.number, nextBand := 0, identity := false,
                                     ws := workingSetAt v l.nominal l.focus j.geom.crop } ∧
            t.jobs.table = before ++ { j with
              state := .running, trueFocal := some focal.1
              flags := { j.flags with clamped := j.flags.clamped || focal.2 } } :: after) ∧
          (j.ref = none → j.geom.policy = .pass →
            t.engine.now = .inBand {
              job := j.number, nextBand := 0, identity := true
              ws := { k1 := 0, k2 := 0, k3 := 0, cx := 0, cy := 0, scale := 16384,
                      chroma := { redLinear := 0, redCubic := 0, blueLinear := 0, blueCubic := 0 } } } ∧
            t.jobs.table = before ++ { j with
              state := .running, trueFocal := j.lens.map LensState.nominal
              flags := { j.flags with uncalibrated := j.flags.uncalibrated || j.lens.isSome } } :: after) ∧
          (j.ref = none → j.geom.policy = .reject → j.suppressed = false →
            .jobEnded j.number .failedNoProfile j.flags j.bandsDone ∈ t.notices j.port ∧
              t.engine.now.job ≠ some j.number))

/-- R123, R126, R129 to R132, R143, R144, R148, R149, R154: the boundary of a band of the current job, by what is pending. `next` is
the context with its next band counted, `job` the entry with its band counted, `ends` says that the job ends here, and `starts` that
a chosen job is not rejected at its start: it runs without a profile, or with one that its own pin keeps. -/
def Obligations.BandBoundaryTakesItsSteps : Prop :=
  ∀ (s : State) (c : Context) (j : Job), s.engine.now = .inBand c → s.findJob c.job = some j → j.areasInside = true →
    j.state = .running → s.numbersDistinct →
    let out := bandOutput s.frameMem j c.ws c.nextBand
    let next : Context := { c with nextBand := c.nextBand + 1 }
    let job : Job := { j with bandsDone := j.bandsDone + 1,
                              flags := { j.flags with spanLimited := j.flags.spanLimited || out.spanLimited } }
    let pending := s.memPort.pendingWithdrawal
    let ends := j.cancelPending = true ∨ j.bandsTotal ≤ c.nextBand + 1
    let starts := fun x : Job => x.geom.policy = .pass ∨ s.pinsCounted ∧ (s.startInputs x).isSome
    ∃ t, exec .bandBoundary s = .next t ∧ t.frameMem = s.frameMem.writeAll out.all ∧
      (pending = true → t.memPort.grant = .withdrawn ∧ t.memPort.pendingWithdrawal = false) ∧
      (pending = false → t.memPort.grant = s.memPort.grant ∧ t.memPort.pendingWithdrawal = false) ∧
      (j.cancelPending = true → j.suppressed = false →
        .jobEnded j.number .cancelled job.flags job.bandsDone ∈ t.notices j.port ∧
          t.findJob j.number = some { job with state := .ended .cancelled, cancelPending := false }) ∧
      (j.cancelPending = false → c.nextBand + 1 < j.bandsTotal →
        (pending = true →
          t.engine.now = .holding next ∧ t.findJob j.number = some { job with state := .paused } ∧
          t.memPort.pauseTimer = some {
            job := c.job, expiry := s.timebase + BitVec.ofNat 32 (1000 * s.memPort.pauseLimit) } ∧
          ∀ k tag, (s.port .body).link = .inProgress → (s.port .body).request = some (k, tag) →
            (t.port .body).link = .responseWaiting ∧ (t.port .body).response =
              some { kind := k, tag := tag, code := .ok, answer := .withdrawn .atBoundary (some c.job) }) ∧
        (pending = false → j.cls = .still → ∀ x, s.oldestEligible .urgent = some x →
          (x.geom.policy = .pass ∨ (s.startInputs x).isSome) →
            t.engine.shadow = some next ∧ t.engine.now.job = some x.number ∧
              t.findJob j.number = some { job with state := .suspended }) ∧
        (pending = false → j.cls = .still → ∀ x, s.oldestEligible .urgent = some x → x.geom.policy = .reject →
          s.startInputs x = none → (∀ y ∈ s.jobs.table, y.cls = .urgent → y.state = .queued → y.number = x.number) →
            t.engine = { now := .inBand next, shadow := none } ∧ t.findJob j.number = some job ∧
              (x.suppressed = false → .jobEnded x.number .failedNoProfile x.flags x.bandsDone ∈ t.notices x.port)) ∧
        (pending = false → (j.cls = .still → s.oldestEligible .urgent = none) →
          t.engine.now = .inBand next ∧ t.findJob j.number = some job ∧ t.engine.shadow = s.engine.shadow)) ∧
      (j.cancelPending = false → j.bandsTotal ≤ c.nextBand + 1 →
        let result : JobResult := if c.identity then .uncorrected else .done
        (j.suppressed = false → .jobEnded j.number result job.flags job.bandsDone ∈ t.notices j.port ∧
          t.findJob j.number = some { job with state := .ended result }) ∧
        (j.cls = .still → t.records.getLast? = some {
            seq := j.seq, job := j.number, key := j.key, firmware := j.firmware, lens := j.lens
            trueFocal := j.trueFocal, ref := j.ref, result := result, flags := job.flags
            srcWidth := j.geom.srcWidth, srcHeight := j.geom.srcHeight, completed := s.timebase } ∧
          .recordAdded j.seq ∈ t.notices .transmitter) ∧
        (j.cls ≠ .still → t.records = s.records)) ∧
      (ends → j.cls = .urgent → ∀ saved x, s.engine.shadow = some saved → saved.job ≠ c.job →
        s.findJob saved.job = some x →
          (pending = true → t.engine = { now := .holding saved, shadow := none } ∧
            t.findJob saved.job = some { x with state := .paused } ∧ t.memPort.pauseTimer = some {
              job := saved.job, expiry := s.timebase + BitVec.ofNat 32 (1000 * s.memPort.pauseLimit) }) ∧
          (pending = false → s.memPort.grant = .granted → s.oldestEligible .urgent = none →
            t.engine = { now := .inBand saved, shadow := none } ∧
              t.findJob saved.job = some { x with state := .running })) ∧
      (ends → pending = true → s.engine.shadow = none → t.engine = { now := .idle, shadow := none }) ∧
      (ends → pending = false → (∀ saved, s.engine.shadow = some saved → saved.job ≠ c.job) →
        ∀ x, s.oldestEligible .urgent = some x → starts x →
          t.engine.now.job = some x.number ∧ t.engine.shadow = s.engine.shadow ∧
            ∃ y, t.findJob x.number = some y ∧ y.state = .running) ∧
      (ends → pending = false → s.engine.shadow = none → s.oldestEligible .urgent = none →
        let chosen := (s.oldestEligible .still).or (s.oldestEligible .preview)
        (chosen = none → t.engine = { now := .idle, shadow := none }) ∧
        ∀ x, chosen = some x → starts x → t.engine.now.job = some x.number ∧ t.engine.shadow = none ∧
          ∃ y, t.findJob x.number = some y ∧ y.state = .running)

/-- R133, R150: a bus error on a transfer of the band in progress: the writes before it have been made, the job ends
FAILED_MEMORY_FAULT whatever its pending cancellation, and a pending withdrawal is taken. -/
def Obligations.BusErrorFailsTheJob : Prop :=
  ∀ (s : State) (c : Context) (j : Job) (x : BusTransfer), s.engine.now = .inBand c → s.findJob c.job = some j →
    j.areasInside = true → s.numbersDistinct →
    let out := bandOutput s.frameMem j c.ws c.nextBand
    (∀ line bytes, x = .write line bytes → line < out.lines.length) →
    ∃ t, exec (.busError x) s = .next t ∧
      (x = .read → t.frameMem = s.frameMem) ∧
      (∀ line bytes, x = .write line bytes → t.frameMem =
        s.frameMem.writeAll ((out.lines.take line).flatten ++ ((out.lines[line]?).getD []).take bytes)) ∧
      (j.suppressed = false → .jobEnded j.number .failedMemoryFault j.flags j.bandsDone ∈ t.notices j.port ∧
        t.findJob j.number = some { j with state := .ended .failedMemoryFault, cancelPending := false }) ∧
      t.records = s.records ∧ t.memPort.pendingWithdrawal = false ∧
      (s.memPort.pendingWithdrawal = true → t.memPort.grant = .withdrawn) ∧
      (s.memPort.pendingWithdrawal = false → t.memPort.grant = s.memPort.grant)

/-! ### Frame memory, frame records and power (R138 to R164, R180 to R187) -/

/-- R140, R141, R123, R131, R134, R142: SET WINDOW, GRANT MEMORY and WITHDRAW MEMORY, by the grant state and the engine. A SET WINDOW
refused because memory is granted names the grant alone, whatever entries are unended (the model's choice, log 31). A grant that
finds the engine IDLE starts the oldest eligible job of the highest class. A withdrawal that meets a band in progress becomes
pending and its response is held; the response to one that finds memory WITHDRAWN names no PAUSED job (the model's choice,
log 35). -/
def Obligations.FrameMemoryIsLentAndTaken : Prop :=
  (∀ (h : Hdr) (base size : Nat) (s : State), Takes .setWindow h s →
    let run := exec (.setWindow h base size) s
    let ranged := base % 64 = 0 ∧ size % 64 = 0 ∧ size ≠ 0 ∧ base + size ≤ 2 ^ 32
    let unended := (s.jobs.table.filter Job.unended).length
    (¬ ranged → run = refusedWith .setWindow h s .badField .none) ∧
    (ranged → s.memPort.grant = .granted → run = refusedWith .setWindow h s .engineBusy (.windowBusy .granted)) ∧
    (ranged → s.memPort.grant = .withdrawn → unended ≠ 0 →
      run = refusedWith .setWindow h s .engineBusy (.windowBusy (.unended unended))) ∧
    (ranged → s.memPort.grant = .withdrawn → unended = 0 →
      run = .next ((s.withMemPort { s.memPort with window := some { base := base, size := size } }).answered .setWindow h
        .ok (.windowSet { base := base, size := size } s.memPort.window)))) ∧
  (∀ (h : Hdr) (s : State), Takes .grantMemory h s →
    (s.memPort.grant = .granted →
      exec (.grantMemory h) s = .next (s.answered .grantMemory h .ok (.granted false s.currentJob))) ∧
    (s.memPort.grant = .withdrawn → ∃ t, exec (.grantMemory h) s = .next t ∧
      t.hasAnswer .grantMemory h .ok (.granted true t.currentJob) ∧ t.memPort.grant = .granted ∧
      (s.engine.now = .idle → s.engine.shadow = none → (s.power ≠ .active ∨ ∀ j ∈ s.jobs.table, j.state ≠ .queued) →
        t.engine = s.engine ∧ t.jobs = s.jobs) ∧
      (s.engine.now = .idle → s.engine.shadow = none → s.power = .active → s.memPort.pendingWithdrawal = false →
        s.numbersDistinct →
        let oldest := fun k => s.jobs.table.find? fun y => decide (y.state = .queued) && decide (y.cls = k)
        ∀ x, (oldest .urgent).or ((oldest .still).or (oldest .preview)) = some x →
          (x.geom.policy = .pass ∨ (s.startInputs x).isSome → t.engine.now.job = some x.number ∧ t.engine.shadow = none ∧
            ∃ y, t.findJob x.number = some y ∧ y.state = .running) ∧
          (x.geom.policy = .reject → s.startInputs x = none → x.suppressed = false →
            .jobEnded x.number .failedNoProfile x.flags x.bandsDone ∈ t.notices x.port)) ∧
      ∀ c j, s.engine.now = .holding c → s.findJob c.job = some j → j.state = .paused → s.numbersDistinct →
        (j.cls ≠ .still ∨ s.power ≠ .active ∨ (∀ x ∈ s.jobs.table, x.cls = .urgent → x.state ≠ .queued) →
          t.engine = { s.engine with now := .inBand c } ∧ t.memPort.pauseTimer = none ∧
            t.findJob c.job = some { j with state := .running }) ∧
        ∀ x, j.cls = .still → s.power = .active → s.memPort.pendingWithdrawal = false →
          (s.jobs.table.find? fun y => decide (y.state = .queued) && decide (y.cls = .urgent)) = some x →
          x.geom.policy = .pass ∨ (s.startInputs x).isSome →
          t.engine.shadow = some c ∧ t.engine.now.job = some x.number ∧ t.memPort.pauseTimer = none ∧
            t.findJob c.job = some { j with state := .suspended })) ∧
  ∀ (h : Hdr) (s : State), Takes .withdrawMemory h s →
    (s.memPort.grant = .withdrawn →
      exec (.withdrawMemory h) s = .next (s.answered .withdrawMemory h .ok (.withdrawn .atOnce none))) ∧
    (s.memPort.grant = .granted → s.engine.now = .idle → exec (.withdrawMemory h) s =
      .next ((s.withMemPort { s.memPort with grant := .withdrawn }).answered .withdrawMemory h .ok
        (.withdrawn .atOnce none))) ∧
    ∀ c, s.memPort.grant = .granted → s.engine.now = .inBand c → ∃ t, exec (.withdrawMemory h) s = .next t ∧
      t.memPort = { s.memPort with pendingWithdrawal := true } ∧ (t.port h.port).link = .inProgress ∧
        (t.port h.port).request = some (ReqKind.withdrawMemory.byte, h.tag) ∧
        (t.port h.port).response = (s.port h.port).response

/-- R152: QUERY MEMORY, which no pending withdrawal meets. -/
def Obligations.QueryMemoryAnswersThePort : Prop :=
  ∀ (h : Hdr) (s : State), Takes .queryMemory h s →
    exec (.queryMemory h) s = .next (s.answered .queryMemory h .ok
      (.memory s.memPort.window s.memPort.grant s.memPort.pauseLimit s.memPort.pauseTimer
        (s.jobs.table.filter Job.unended).length)) ∧
    (s.memoryAgrees → s.memPort.pendingWithdrawal = false) ∧
    (s.limitsInRange → 10 ≤ s.memPort.pauseLimit ∧ s.memPort.pauseLimit ≤ 2000) ∧
    (s.tableBounded → (s.jobs.table.filter Job.unended).length ≤ 12)

/-- R147, R132, R144: the pause timer's expiry ends the paused job, and the shadow is restored PAUSED with a fresh interval. -/
def Obligations.PauseExpiryEndsTheJob : Prop :=
  ∀ (s : State) (p : PauseTimer) (j : Job), s.memPort.pauseTimer = some p → reached s.timebase p.expiry = true →
    s.findJob p.job = some j → j.state = .paused → s.numbersDistinct →
    ∃ t, exec .pauseTimerExpiry s = .next t ∧ t.memPort.grant = s.memPort.grant ∧ t.records = s.records ∧
      (j.suppressed = false → .jobEnded p.job .failedMemoryTimeout j.flags j.bandsDone ∈ t.notices j.port) ∧
      (s.memPort.grant = .withdrawn → s.engine.now.job = some p.job →
        (j.suppressed = false → s.engine.shadow.map Context.job ≠ some p.job →
          t.findJob p.job = some { j with state := .ended .failedMemoryTimeout, cancelPending := false }) ∧
        (s.engine.shadow = none → t.engine = { now := .idle, shadow := none } ∧ t.memPort.pauseTimer = none) ∧
        ∀ c x, s.engine.shadow = some c → c.job ≠ p.job → s.findJob c.job = some x →
          t.engine = { now := .holding c, shadow := none } ∧ t.findJob c.job = some { x with state := .paused } ∧
          t.memPort.pauseTimer = some {
            job := c.job, expiry := s.timebase + BitVec.ofNat 32 (1000 * s.memPort.pauseLimit) })

/-- R157: READ RECORDS. -/
def Obligations.ReadRecordsWalksTheList : Prop :=
  ∀ (h : Hdr) (start count : Nat) (s : State), (s.port h.port).link = .idle → h.badLength = false → h.early = false →
    let run := exec (.readRecords h start count) s
    (h.port ≠ .transmitter → run = refusedWith .readRecords h s .notPermitted .none) ∧
    (h.port = .transmitter →
      (count < 1 ∨ 4 < count → run = refusedWith .readRecords h s .badField .none) ∧
      (1 ≤ count → count ≤ 4 →
        (start ≠ 0 → (∀ r ∈ s.records, r.seq ≠ start) → run = refusedWith .readRecords h s .noRecord .none) ∧
        (start = 0 → s.records = [] → run = refusedWith .readRecords h s .noRecord .none) ∧
        ∀ before list newest, s.records = before ++ list → list.getLast? = some newest →
          (start = 0 → before = []) →
          (start ≠ 0 → (∀ r ∈ before, r.seq ≠ start) ∧ list.head?.map FrameRecord.seq = some start) →
          run = .next (s.answered .readRecords h .ok
            (.records s.records.length (list.length - count) newest.seq (list.take count)))))

/-- R158 to R162: SUBMIT URGENT, its refusals in order, the choice of the version, and the job it makes. -/
def Obligations.SubmitUrgentMakesAJob : Prop :=
  ∀ (h : Hdr) (a : UrgentArgs) (s : State), Takes .submitUrgent h s →
    let run := exec (.submitUrgent h a) s
    let limit := match a.format with | .is .rgb24 => 255 | .is .rgb48 => 65535 | .invalid => 0
    let fillOk := a.border = .is .fill → a.fill.red ≤ limit ∧ a.fill.green ≤ limit ∧ a.fill.blue ≤ limit
    let ranged := a.seq ≠ 0 ∧ (64 ≤ a.outWidth ∧ a.outWidth ≤ 8192) ∧ (16 ≤ a.outHeight ∧ a.outHeight ≤ 6144) ∧ fillOk
    (a.format = .invalid ∨ a.border = .invalid ∨ a.fallback = .invalid ∨ a.crop = .invalid ∨ ¬ ranged →
      run = refusedWith .submitUrgent h s .badField .none) ∧
    ∀ f b p c, a.format = .is f → a.border = .is b → a.fallback = .is p → a.crop = .is c → ranged →
      ((∀ r ∈ s.records, r.seq ≠ a.seq) → run = refusedWith .submitUrgent h s .noRecord .none) ∧
      ∀ r before after, s.records = before ++ r :: after → r.seq = a.seq → (∀ y ∈ before, y.seq ≠ a.seq) →
        let g : Geometry := { format := f, srcWidth := r.srcWidth, srcHeight := r.srcHeight, outWidth := a.outWidth,
                              outHeight := a.outHeight, border := b, fill := a.fill, policy := p, crop := c }
        let sourceFault := windowFault s.memPort.window a.source g.srcWidth g.srcHeight f
        let destFault := windowFault s.memPort.window a.dest g.outWidth g.outHeight f
        let fits := sourceFault = none ∧ destFault = none
        let mine := s.jobs.table.filter fun j => decide (j.port = .transmitter)
        let ended := (mine.filter fun j => !j.unended).length
        (∀ x, sourceFault = some x → run = refusedWith .submitUrgent h s .window (.windowFails .source x)) ∧
        (∀ x, sourceFault = none → destFault = some x →
          run = refusedWith .submitUrgent h s .window (.windowFails .destination x)) ∧
        (fits → 2 ≤ mine.length → run = refusedWith .submitUrgent h s .tableFull (.tableFull .allowance ended)) ∧
        (fits → mine.length < 2 → 12 ≤ s.jobs.table.length →
          run = refusedWith .submitUrgent h s .tableFull (.tableFull .table ended)) ∧
        (fits → mine.length < 2 → s.jobs.table.length < 12 → s.numbersDistinct → s.engineAgrees →
          let same := fun own : ProfileRef => ∃ v, s.store.find own = some v ∧ r.key = some v.key
          let current := fun (own : ProfileRef) (v : Version) =>
            (s.store.slot own.slot).live = some v ∧ r.key = some v.key
          ∃ t n st ref again, run = .next t ∧
            t.hasAnswer .submitUrgent h .ok (.urgent n st ((a.outHeight + 15) / 16) ref again) ∧
            1 ≤ n ∧ (∀ j ∈ s.jobs.table, j.number ≠ n) ∧
            (∀ own, r.ref = some own → same own → ref = some own ∧ again = false) ∧
            (∀ own v, r.ref = some own → ¬ same own → current own v →
              ref = some { slot := own.slot, number := v.number } ∧ again = true) ∧
            (r.ref = none ∨ (∃ own, r.ref = some own ∧ ¬ same own ∧ ∀ v, ¬ current own v) → ref = none ∧ again = false) ∧
            (∃ j, t.findJob n = some j ∧ j.state = st ∧ j.port = .transmitter ∧ j.cls = .urgent ∧ j.seq = a.seq ∧
              j.source = a.source ∧ j.dest = a.dest ∧ j.geom = g ∧ j.ref = ref ∧ j.key = r.key ∧
              j.firmware = r.firmware ∧ j.lens = r.lens ∧ j.bandsDone = 0 ∧ j.bandsTotal = (a.outHeight + 15) / 16 ∧
              j.flags.reprofiled = again ∧ j.flags.held = r.flags.held ∧ j.flags.nearest = r.flags.nearest ∧
              j.flags.detached = r.flags.detached ∧
              j.stateFlags = some {
                held := r.flags.held, nearest := r.flags.nearest, detached := r.flags.detached
                noState := r.lens.isNone && !r.flags.detached, unbound := r.lens.isSome && ref.isNone }) ∧
            (s.power = .standby → t.power = .waking (s.timebase + 2000)) ∧ (s.power ≠ .standby → t.power = s.power))

/-- R184: STANDBY. -/
def Obligations.StandbyIsTakenWhenNoJobIsUnended : Prop :=
  ∀ (h : Hdr) (s : State), (s.port h.port).link = .idle → h.badLength = false → h.early = false → s.power ≠ .inReset →
    let run := exec (.standby h) s
    let unended := (s.jobs.table.filter Job.unended).length
    (h.port ≠ .body → run = refusedWith .standby h s .notPermitted .none) ∧
    (h.port = .body →
      (unended ≠ 0 → run = refusedWith .standby h s .engineBusy (.unended unended)) ∧
      (unended = 0 → run = .next ((s.withPower .standby).answered .standby h .ok
        (.power .standby (decide (s.power ≠ .standby)))) ∧
        (s.engineAgrees → s.memoryAgrees → s.engine = { now := .idle, shadow := none } ∧ s.memPort.pauseTimer = none ∧
          s.memPort.pendingWithdrawal = false)))

/-- R57, R58, R103, R172, R175, R182, R185: the requests that answer from the state as it stands, set the mask, or ask for a wake.
That the response to WAKE says whether the power state changed is the model's (DEDUCED, log 28): R185 names the power state and the
wake end. -/
def Obligations.PlainRequestsAnswer : Prop :=
  (∀ (h : Hdr) (s : State), Takes .queryTime h s →
    exec (.queryTime h) s = .next (s.answered .queryTime h .ok (.time s.timebase))) ∧
  (∀ (h : Hdr) (s : State), Takes .resetPart h s →
    exec (.resetPart h) s = .next (s.answered .resetPart h .ok .none)) ∧
  (∀ (h : Hdr) (bits : Byte) (s : State), Takes .setNoticeMask h s →
    (32 ≤ bits.toNat → exec (.setNoticeMask h bits) s = refusedWith .setNoticeMask h s .badField .none) ∧
    (bits.toNat < 32 → exec (.setNoticeMask h bits) s =
      .next ((s.setPort h.port { s.port h.port with mask := bits.setWidth 5 }).answered .setNoticeMask h .ok
        (.masks (s.port h.port).mask (bits.setWidth 5))))) ∧
  (∀ (h : Hdr) (stream : Sys2Proof.Field StreamId) (s : State), Takes .queryStream h s →
    (stream = .invalid → exec (.queryStream h stream) s = refusedWith .queryStream h s .badField .none) ∧
    ∀ i, stream = .is i →
      let mine := s.jobs.table.filter fun j => decide (j.cls = streamClass i) && j.unended
      exec (.queryStream h stream) s = .next (s.answered .queryStream h .ok
        (.stream (s.stream i) (decide ((s.stream i).config.failing = none)) mine.length
          (mine.filter fun j => decide (j.state = .queued)).length
          (mine.filter fun j => decide (j.state = .waiting)).length))) ∧
  (∀ (h : Hdr) (s : State), Takes .queryLens h s → ∃ reading,
    exec (.queryLens h) s = .next (s.answered .queryLens h .ok
      (.lens s.tracker.lens s.tracker.attachCount s.tracker.holdLimit s.tracker.history.length reading)) ∧
    (s.tracker.lens = none ∨ s.tracker.history = [] → reading = none) ∧
    ∀ a r, s.tracker.lens = some a → s.tracker.history.getLast? = some r →
      (a.bound = none →
        reading = some { stamp := r.stamp, lens := r.lens, trueFocal := r.lens.nominal, focus := r.lens.focus
                         uncalibrated := true, clamped := false }) ∧
      ∀ ref v, a.bound = some ref → s.store.find ref = some v →
        reading = some {
          stamp := r.stamp, lens := r.lens, focus := r.lens.focus, uncalibrated := false
          trueFocal := (trueFocalAt v.nodes r.lens.nominal r.lens.focus).1
          clamped := (trueFocalAt v.nodes r.lens.nominal r.lens.focus).2 }) ∧
  ∀ (h : Hdr) (s : State), Takes .wake h s →
    (s.power = .standby → exec (.wake h) s =
      .next ((s.withPower (.waking (s.timebase + 2000))).answered .wake h .ok
        (.power (.waking (s.timebase + 2000)) true))) ∧
    (s.power ≠ .standby → exec (.wake h) s = .next (s.answered .wake h .ok (.power s.power false)))

/-! ### Ports and resets (R165 to R176) -/

/-- R42, R117, R118, R173, R174: FETCH NOTICES removes the four oldest notices and frees the entries they name; RESET PORT aborts the
port's edit, cancels its jobs, empties its list and its mask, and on the Mount Port the list and mask alone. -/
def Obligations.NoticesLeaveAndPortsReset : Prop :=
  (∀ (h : Hdr) (s : State), Takes .fetchNotices h s →
    let first := (s.notices h.port).take 4
    let kept := s.jobs.table.filter fun j => !(endedNotices first).contains j.number
    exec (.fetchNotices h) s = .next
      (((s.setPort h.port { s.port h.port with notices := (s.notices h.port).drop 4 }).withJobs
        { s.jobs with table := kept }).answered .fetchNotices h .ok (.notices ((s.notices h.port).length - 4) first))) ∧
  ∀ (h : Hdr) (s : State), Takes .resetPort h s →
    (h.port = .mount →
      let kept := s.jobs.table.filter fun j => !(endedNotices (s.notices .mount)).contains j.number
      exec (.resetPort h) s = .next
        (((s.setPort .mount { s.port .mount with notices := [], mask := 0 }).withJobs
          { s.jobs with table := kept }).answered .resetPort h .ok
            (.portReset 0 (s.jobs.table.length - kept.length) false false))) ∧
    (h.port ≠ .mount → s.numbersDistinct → s.engineAgrees → s.noticesNameEnded →
      (∀ j ∈ s.jobs.table, j.suppressed = true → j.state = .running) →
      ∃ t, exec (.resetPort h) s = .next t ∧
      t.hasAnswer .resetPort h .ok
        (.portReset (s.jobs.table.filter fun j => decide (j.port = h.port) && j.unended).length
          (s.jobs.table.length - t.jobs.table.length) (s.edit h.port).isSome
          (s.jobs.table.any fun j => decide (j.port = h.port) && decide (j.state = .running))) ∧
      t.notices h.port = [] ∧ (t.port h.port).mask = 0 ∧ t.edit h.port = none ∧
      (∀ p, p ≠ h.port → (t.port p).link = (s.port p).link ∧ (t.port p).request = (s.port p).request ∧
        (t.port p).response = (s.port p).response ∧ (t.port p).mask = (s.port p).mask) ∧
      (∀ p, p ≠ h.port → t.edit p = s.edit p) ∧
      (∀ j ∈ t.jobs.table, j.port = h.port → j.state = .running ∧ j.cancelPending = true ∧ j.suppressed = true) ∧
      ∀ j ∈ s.jobs.table, j.port = h.port → j.state = .running →
        { j with cancelPending := true, suppressed := true } ∈ t.jobs.table)

/-- R166, R167, R168, R176: damaged frames, unknown kinds, discarded and malformed transactions, by the link state; in RESET, and in
a transaction that opened before the last reset was over (log 30), all are ignored. In a write transaction the port sends 0x00
bytes; what it sends in one with another opening byte is not given (log 11). -/
def Obligations.DamagedTransactionsAreAnswered : Prop :=
  ∀ (x : Transaction) (bytes : List Byte) (kind tag opening : Byte) (s : State),
    let link := (s.port x.port).link
    let ignored : Result := .next (s.send x.port .zeros)
    let turnedAway : Result := .next ((s.raise x.port (.protocolError 1)).send x.port .zeros)
    (x.early = true ∨ link = .reset → exec (.frameError x bytes) s = ignored ∧ exec (.unknownKind x kind tag) s = ignored ∧
      exec (.writeTransactionDiscarded x) s = ignored ∧
      exec (.invalidOpeningByte x opening) s = .next (s.send x.port .notGiven)) ∧
    (x.early = false → link = .inProgress ∨ link = .responseWaiting →
      exec (.frameError x bytes) s = turnedAway ∧ exec (.unknownKind x kind tag) s = turnedAway ∧
      exec (.writeTransactionDiscarded x) s = turnedAway) ∧
    (x.early = false → link ≠ .reset → opening ≠ 0x5A → opening ≠ 0xA5 →
      exec (.invalidOpeningByte x opening) s = .next ((s.raise x.port (.protocolError 1)).send x.port .notGiven)) ∧
    (x.early = false → link = .idle →
      (bytes = [] → exec (.frameError x bytes) s = ignored) ∧
      (receive bytes = .damaged → exec (.frameError x bytes) s =
        .next ((s.place x.port { kind := 0, tag := 0, code := .frameError, answer := .none }).send x.port .zeros)) ∧
      (kind = 0 ∨ 37 < kind.toNat → exec (.unknownKind x kind tag) s =
        .next ((s.place x.port { kind := kind, tag := tag, code := .unknownKind, answer := .none }).send x.port .zeros)))

/-- R169, R175, R176: read transactions. A response sent whole is read out; one cut short stays pending; the read-out of RESET PART's
response begins the reset of the part; a transaction in RESET, or that opened before the last reset was over (log 30), is sent 0x00
bytes. What was sent is the model's own record (log 11): byte by byte the frame's, and 0x00 after its last byte. -/
def Obligations.ReadTransactionsSendTheResponse : Prop :=
  (∀ (x : Transaction) (extent : ReadExtent) (s : State),
    let run := exec (.readTransaction x extent) s
    let p := x.port
    (x.early = true ∨ (s.port p).link = .reset → run = .next (s.send p .zeros)) ∧
    (x.early = false → (s.port p).link = .idle ∨ (s.port p).link = .inProgress →
      run = .next (s.send p (.emptyFrame extent))) ∧
    ∀ r, x.early = false → (s.port p).link = .responseWaiting → (s.port p).response = some r →
      let sent := s.send p (.response r extent)
      let whole := extent = .whole ∨ ∃ n, extent = .ended n ∧ r.bytes.length ≤ n
      let resets := r.kind = ReqKind.resetPart.byte ∧ r.code = .ok
      (∀ n, extent = .ended n → n < r.bytes.length → run = .next sent) ∧
      (whole → ¬ resets → run = .next (sent.setPort p { s.port p with link := .idle, response := none })) ∧
      (whole → resets → ∃ t, run = .next t ∧ t.power = .inReset ∧ t.timebase = 0 ∧
        t.resetCtl.internal = 100 ∧ t.resetCtl.input = s.resetCtl.input ∧ t.wire = sent.wire ∧
        (∀ q, (t.port q).link = .reset ∧ (t.port q).response = none ∧ t.notices q = []) ∧
        t.store = State.reset.store ∧ t.edits = State.reset.edits ∧ t.tracker = State.reset.tracker ∧
        t.exposure = State.reset.exposure ∧ t.jobs = State.reset.jobs ∧ t.engine = State.reset.engine ∧
        t.memPort = State.reset.memPort ∧ t.records = [])) ∧
  ∀ (r : Response) (n i : Nat),
    let empty : List Byte := [0, 0, 0] ++ crcTail [0, 0, 0]
    (Sent.response r .whole).byte i = r.bytes[i]? ∧ (Sent.emptyFrame .whole).byte i = empty[i]? ∧
    (i < n → (Sent.response r (.ended n)).byte i = some (r.bytes.getD i 0) ∧
      (Sent.emptyFrame (.ended n)).byte i = some (empty.getD i 0)) ∧
    (n ≤ i → (Sent.response r (.ended n)).byte i = none ∧ (Sent.emptyFrame (.ended n)).byte i = none) ∧
    Sent.zeros.byte i = some 0

/-- R176, R137, R187, R45: RESET puts every block at its reset values and leaves frame memory but for a prefix of the band in
progress (log 15); RESET END makes the ports IDLE and the part WAKING, or records the release while the internal period runs
(log 16), and a microsecond of that period counts it down (log 2); REPORT AGED marks the reports that are due. -/
def Obligations.ResetsBeginAndEnd : Prop :=
  (∀ s : State, ∃ t, exec .reset s = .next t ∧ t.power = .inReset ∧ t.timebase = 0 ∧
    t.resetCtl = { s.resetCtl with input := true } ∧
    (∀ q, (t.port q).link = .reset ∧ (t.port q).request = none ∧ (t.port q).response = none ∧ t.notices q = [] ∧
      (t.port q).mask = 0) ∧
    t.store = State.reset.store ∧ t.edits = State.reset.edits ∧ t.tracker = State.reset.tracker ∧
    t.exposure = State.reset.exposure ∧ t.jobs = State.reset.jobs ∧ t.engine = State.reset.engine ∧
    t.memPort = State.reset.memPort ∧ t.records = [] ∧
    ((∀ c, s.engine.now ≠ .inBand c) → t.frameMem = s.frameMem) ∧
    ∀ c j, s.engine.now = .inBand c → s.findJob c.job = some j → j.areasInside = true →
      ∃ n, t.frameMem = s.frameMem.writeAll ((bandOutput s.frameMem j c.ws c.nextBand).all.take n)) ∧
  (∀ s : State,
    (s.power ≠ .inReset → exec .resetEnd s = .next s) ∧
    (s.power = .inReset → s.resetCtl.internal = 0 → exec .resetEnd s = .next { State.reset with
      pending := s.pending, frameMem := s.frameMem, wire := s.wire, freeCount := s.freeCount }) ∧
    (s.power = .inReset → s.resetCtl.internal ≠ 0 →
      exec .resetEnd s = .next (s.withResetCtl { s.resetCtl with input := false })) ∧
    (s.power = .inReset → s.pending = [] → ∃ t, step s = .next t ∧ t.timebase = s.timebase ∧
      t.resetCtl = { s.resetCtl with internal := s.resetCtl.internal - 1 } ∧
      t.pending = (if s.resetCtl.internal ≤ 1 ∧ s.resetCtl.input = false then [.resetEnd] else []))) ∧
  ∀ s : State, exec .reportAged s = .next (s.withTracker { s.tracker with
    history := s.tracker.history.map fun r =>
      if r.aged = false ∧ reached s.timebase (r.stamp + BitVec.ofNat 32 (2 ^ 30)) = true then { r with aged := true }
      else r })

/-! ### Arithmetic and layouts -/

/-- R181: later and earlier are read from the difference modulo 2^32, and a timer whose expiry value the Timebase equals has been
reached. The single roundings: R71, both reports present: linear interpolation in time, to the nearest whole unit with halves up, and
the before report's aperture, when the fraction taken modulo 2^32 is below 1 (otherwise log 18). R83, R84: a field's value in each
of two rows and between the rows, a blend of exact values, rounded once with halves away from zero. R93: the blend of four samples, rounded with halves up. -/
def Obligations.ArithmeticIsExact : Prop :=
  (∀ a b : Stamp,
    (later a b = true ↔ 1 ≤ (a - b).toNat ∧ (a - b).toNat ≤ 2 ^ 31 - 1) ∧
    (earlier a b = true ↔ 2 ^ 31 ≤ (a - b).toNat) ∧
    (a = b ∨ later a b = true ∨ earlier a b = true) ∧
    (later a b = true → earlier a b = false ∧ a ≠ b) ∧ (earlier a b = true → a ≠ b) ∧
    (later a b = true → earlier b a = true) ∧ reached a a = true) ∧
  (∀ (b a : Report) (m : Stamp), (m - b.stamp).toNat < (a.stamp - b.stamp).toNat →
    let num : ℚ := ((m - b.stamp).toNat : ℚ)
    let den : ℚ := ((a.stamp - b.stamp).toNat : ℚ)
    let at_ := fun x y : Nat => (x : ℚ) + ((y : ℚ) - (x : ℚ)) * (num / den)
    let r := blendReports b a m
    (r.nominal : ℤ) = ⌊at_ b.lens.nominal a.lens.nominal + 1 / 2⌋ ∧ (r.focus : ℤ) = ⌊at_ b.lens.focus a.lens.focus + 1 / 2⌋ ∧
      r.aperture = b.lens.aperture) ∧
  (∀ (b : Blend) (field : Nat → Int), 0 < b.lower.weight.den → 0 < b.upper.weight.den → 0 < b.weight.den →
    let w := fun f : Frac => (f.num : ℚ) / (f.den : ℚ)
    let row := fun p : Pick => (field p.lo : ℚ) + ((field p.hi : ℚ) - (field p.lo : ℚ)) * w p.weight
    let x := row b.lower + (row b.upper - row b.lower) * w b.weight
    (0 ≤ x → b.value field = ⌊x + 1 / 2⌋) ∧ (x < 0 → b.value field = ⌈x - 1 / 2⌉)) ∧
  (∀ a b w : Frac, 0 < a.den → 0 < b.den → 0 < w.den →
    let q := fun f : Frac => (f.num : ℚ) / (f.den : ℚ)
    let x := q a + (q b - q a) * q w
    (0 ≤ x → roundAway (a.blend b w) = ⌊x + 1 / 2⌋) ∧ (x < 0 → roundAway (a.blend b w) = ⌈x - 1 / 2⌉)) ∧
  ∀ a b s00 s10 s01 s11 : Nat, a ≤ 64 → b ≤ 64 →
    let u : ℚ := a / 64
    let v : ℚ := b / 64
    (blendSamples a b s00 s10 s01 s11 : ℤ) =
      ⌊(1 - u) * (1 - v) * s00 + u * (1 - v) * s10 + (1 - u) * v * s01 + u * v * s11 + 1 / 2⌋

/-- R89 to R92: the source points of a pixel, from the formulas of the mapping over the real numbers. -/
def Obligations.PixelsMapByTheFormulas : Prop :=
  ∀ (g : Geometry) (ws : WorkingSet) (x y : Nat), 0 < g.outWidth →
    let half := fun w h : Nat => Real.sqrt ((w : ℝ) * w + (h : ℝ) * h) / 2
    let d := half g.outWidth g.outHeight
    let cx : ℝ := ws.cx / 4096
    let cy : ℝ := ws.cy / 4096
    let px := ((x : ℝ) + 1 / 2 - g.outWidth / 2) / d - cx
    let py := ((y : ℝ) + 1 / 2 - g.outHeight / 2) / d - cy
    let r2 := px ^ 2 + py ^ 2
    let k := fun v : Int => (v : ℝ) / 2 ^ 20
    let f := (ws.scale : ℝ) / 16384 * (1 + k ws.k1 * r2 + k ws.k2 * r2 ^ 2 + k ws.k3 * r2 ^ 3)
    let plane := fun linear cubic : Int => f * (1 + (linear : ℝ) / 2 ^ 24 + (cubic : ℝ) / 2 ^ 24 * r2)
    let snap := fun v : ℝ => ⌊64 * v + 1 / 2⌋
    let point := fun factor : ℝ => ({
      x := snap ((g.srcWidth : ℝ) / 2 + (cx + px * factor) * half g.srcWidth g.srcHeight - 1 / 2)
      y := snap ((g.srcHeight : ℝ) / 2 + (cy + py * factor) * half g.srcWidth g.srcHeight - 1 / 2) } : Point)
    let p := pixelPoints g ws x y
    p.green = point f ∧ p.red = point (plane ws.chroma.redLinear ws.chroma.redCubic) ∧
      p.blue = point (plane ws.chroma.blueLinear ws.chroma.blueCubic)

/-- R82, R83, R84: the choice among ascending key values: one alone, an equal one, the end one with clamping, or the two around the
value with their exact weight. R7: the focal rows of a node list in order, and the nodes of a row, ascending. R82 to R86: the
choices a version is evaluated by, and what its working set and true focal are made of. R127: the fetched lines are distinct,
ascending, inside the frame; all needed lines inside the frame when at most 256 of them are distinct, the lowest 256 otherwise, and
one line of the frame's edge when there is none. R92 to R94, R127, R148, R151: where a source sample is read, or what replaces it,
the nearest fetched line being the upper of two. R126, R128, R149, R151: after a band's writes each sample of its output lines reads
as the one computed, and what makes the band report SPAN_LIMITED; that a sample in a column outside the frame is not reported is the
model's reading (log 33). -/
def Obligations.RowsAndLinesAreChosen : Prop :=
  (∀ (keys : List (Nat × Nat)) (z : Nat), (keys.map Prod.fst).Pairwise (· < ·) →
    (∀ k, keys = [k] → pickAmong keys z = Pick.only k.2 false) ∧
    (∀ k ∈ keys, k.1 = z → pickAmong keys z = Pick.only k.2 false) ∧
    (∀ k k' rest, keys = k :: k' :: rest → z < k.1 → pickAmong keys z = Pick.only k.2 true) ∧
    (∀ front k k', keys = front ++ [k, k'] → k'.1 < z → pickAmong keys z = Pick.only k'.2 true) ∧
    ∀ front a b rest, keys = front ++ a :: b :: rest → a.1 < z → z < b.1 →
      pickAmong keys z =
        { lo := a.2, hi := b.2, weight := { num := (z : Int) - a.1, den := b.1 - a.1 }, clamped := false }) ∧
  (∀ nodes : List NodeRecord,
    nodes.Pairwise (fun a b => a.nominal < b.nominal ∨ (a.nominal = b.nominal ∧ a.focus < b.focus)) →
    (rowKeys nodes).Pairwise (fun a b => a.1 < b.1) ∧
    (∀ k, k ∈ rowKeys nodes ↔ k.1 = k.2 ∧ ∃ n ∈ nodes, n.nominal = k.1) ∧
    ∀ z, (rowNodes nodes z).Pairwise (fun a b => a.1 < b.1) ∧
      ∀ k, k ∈ rowNodes nodes z ↔ ∃ n, nodes[k.2]? = some n ∧ n.nominal = z ∧ n.focus = k.1) ∧
  (∀ (v : Version) (focal focus : Nat) (mode : CropMode),
    let rows := pickAmong (rowKeys v.nodes) focal
    let lower := pickAmong (rowNodes v.nodes rows.lo) focus
    let upper := pickAmong (rowNodes v.nodes rows.hi) focus
    let b : Blend := { lower := lower, upper := upper, weight := rows.weight
                       clamped := rows.clamped || lower.clamped || upper.clamped }
    let node := fun f : NodeRecord → Int => b.value fun i => ((v.nodes[i]?).map f).getD 0
    let terms := fun f : ChromaTerms → Int => match v.chroma with
      | some l => b.value fun i => ((l[i]?).map f).getD 0
      | none => 0
    workingSetAt v focal focus mode = {
      k1 := node NodeRecord.k1, k2 := node NodeRecord.k2, k3 := node NodeRecord.k3, cx := v.cx, cy := v.cy
      chroma := { redLinear := terms ChromaTerms.redLinear, redCubic := terms ChromaTerms.redCubic
                  blueLinear := terms ChromaTerms.blueLinear, blueCubic := terms ChromaTerms.blueCubic }
      scale := match mode with | .none => 16384 | .profile => v.crop.getD 16384 } ∧
    trueFocalAt v.nodes focal focus = ((node fun n => n.trueFocal).toNat, b.clamped)) ∧
  (∀ (m : Memory) (d : Descriptor) (g : Geometry) (fetched : List Nat) (p : Plane) (i j : Int), 0 < g.srcWidth → fetched ≠ [] →
    fetched.Pairwise (· < ·) →
    let place := match p with | .red => 0 | .green => 1 | .blue => 2
    let stored := fun column line : Nat => match g.format with
      | .rgb24 => (m.read (d.address + line * d.pitch + 3 * column + place)).toNat
      | .rgb48 => (m.read (d.address + line * d.pitch + 6 * column + 2 * place)).toNat +
          256 * (m.read (d.address + line * d.pitch + 6 * column + 2 * place + 1)).toNat
    let inside := 0 ≤ i ∧ i < g.srcWidth ∧ 0 ≤ j ∧ j.toNat ∈ fetched
    let sample := sourceSample m d g fetched p i j
    (inside → sample = stored i.toNat j.toNat) ∧
    (¬ inside → g.border = .fill → sample = match p with | .red => g.fill.red | .green => g.fill.green | .blue => g.fill.blue) ∧
    (¬ inside → g.border = .edge → ∃ line ∈ fetched,
      (∀ k ∈ fetched, |j - (line : Int)| < |j - (k : Int)| ∨ |j - (line : Int)| = |j - (k : Int)| ∧ line ≤ k) ∧
      sample = stored (if i < 0 then 0 else if i < g.srcWidth then i.toNat else g.srcWidth - 1) line)) ∧
  (∀ (m : Memory) (d : Descriptor) (g : Geometry) (fetched : List Nat) (p : Plane) (q : Point), ∃ (i j : Int) (a b : Nat),
    q.x = 64 * i + a ∧ a < 64 ∧ q.y = 64 * j + b ∧ b < 64 ∧
    let sample := sourceSample m d g fetched p
    outputSample m d g fetched p q =
      blendSamples a b (sample i j) (sample (i + 1) j) (sample i (j + 1)) (sample (i + 1) (j + 1))) ∧
  (∀ (m : Memory) (j : Job) (ws : WorkingSet) (band : Nat),
    let g := j.geom
    let out := bandOutput m j ws band
    let fetched := fetchedLines g.srcHeight (neededLines (bandPoints g ws band))
    let inBand := fun y x : Nat => 16 * band ≤ y ∧ y < 16 * band + 16 ∧ y < g.outHeight ∧ x < g.outWidth
    let limit := match g.format with | .rgb24 => 255 | .rgb48 => 65535
    (Memory.wf m = true → g.outWidth * bytesPerPixel g.format ≤ j.dest.pitch →
      (g.border = .fill → g.fill.red ≤ limit ∧ g.fill.green ≤ limit ∧ g.fill.blue ≤ limit) →
      ∀ (y x : Nat) (p : Plane), inBand y x →
        readSample (m.writeAll out.all) g.format (sampleAddress j.dest g.format p x y) =
          outputSample m j.source g fetched p ((pixelPoints g ws x y).plane p)) ∧
    (out.spanLimited = true ↔ ∃ (y x : Nat) (p : Plane) (right below : Int), inBand y x ∧ (right = 0 ∨ right = 1) ∧
      (below = 0 ∨ below = 1) ∧
      let i := wholePart ((pixelPoints g ws x y).plane p).x + right
      let l := wholePart ((pixelPoints g ws x y).plane p).y + below
      0 ≤ i ∧ i < g.srcWidth ∧ 0 ≤ l ∧ l < g.srcHeight ∧ l.toNat ∉ fetched)) ∧
  ∀ (height : Nat) (needed : List Int), 0 < height → needed ≠ [] →
    let inside := (needed.filter fun j => decide (0 ≤ j) && decide (j < (height : Int))).dedup
    let fetched := fetchedLines height needed
    fetched.Pairwise (· < ·) ∧ 1 ≤ fetched.length ∧ fetched.length ≤ 256 ∧ (∀ j ∈ fetched, j < height) ∧
    (inside = [] → fetched = [0] ∨ fetched = [height - 1]) ∧
    (inside = [] → (∃ j ∈ needed, j < 0) → fetched = [0]) ∧
    (inside = [] → (∀ j ∈ needed, (height : Int) ≤ j) → fetched = [height - 1]) ∧
    (inside ≠ [] → inside.length ≤ 256 → ∀ j : Nat, j ∈ fetched ↔ (j : Int) ∈ needed ∧ j < height) ∧
    (256 < inside.length → fetched.length = 256 ∧ ∀ j ∈ fetched, (j : Int) ∈ needed ∧
      ∀ k : Nat, (k : Int) ∈ needed → k < j → k ∈ fetched)

/-- R167, R177, R178: a frame of any kind, tag and body is received whole with bytes after it ignored, a frame with a wrong CRC or cut
short is damaged, and the laid out requests come back from their bytes with every operand at every value its field can carry; a
stream byte that names no stream comes back as none. R169, R172, R177: a response is a frame too, of a body of at most 120 bytes, and
the two masks of an answer are a byte each (which of them comes first is log 11). -/
def Obligations.FramesComeBackFromTheirBytes : Prop :=
  (∀ (kind tag : Byte) (body extra : List Byte), body.length ≤ 120 →
    receive (frameBytes kind tag body ++ extra) = .frame kind tag body) ∧
  (∀ (kind tag : Byte) (body : List Byte) (n : Nat), body.length ≤ 120 → 0 < n → n < body.length + 5 →
    receive ((frameBytes kind tag body).take n) = .damaged) ∧
  (∀ (kind tag high low : Byte) (body : List Byte), body.length ≤ 120 →
    [high, low] ≠ crcTail (envelopeHead kind tag body) →
    receive (envelopeHead kind tag body ++ [high, low]) = .damaged) ∧
  (∀ (p : Port) (tag : Byte) (nodes : List NodeRecord), 1 ≤ nodes.length → nodes.length ≤ 4 →
    (∀ n ∈ nodes, n.wf = true) →
    commandOf p (frameBytes 12 tag (nodes.flatMap nodeBytes)) =
      some (.writeNodes { port := p, tag := tag, badLength := false, early := false } nodes)) ∧
  (∀ (p : Port) (tag : Byte) (records : List ChromaRecord), 1 ≤ records.length → records.length ≤ 4 →
    (∀ c ∈ records, c.wf = true) →
    commandOf p (frameBytes 13 tag (records.flatMap chromaBytes)) =
      some (.writeChroma { port := p, tag := tag, badLength := false, early := false } records)) ∧
  (∀ (p : Port) (tag stream : Byte) (seq : Nat) (source dest : Descriptor), seq < 2 ^ 16 → source.wf = true →
    dest.wf = true →
    commandOf p (frameBytes 26 tag ([stream] ++ bytesOf 2 seq ++
      bytesOf 4 source.address ++ bytesOf 4 source.pitch ++ bytesOf 4 dest.address ++ bytesOf 4 dest.pitch)) =
      some (.submitFrame { port := p, tag := tag, badLength := false, early := false }
        (if stream = 1 then .is .still else if stream = 2 then .is .preview else .invalid) seq source dest)) ∧
  (∀ previous now : BitVec 5, answerBytes (.masks previous now) = [previous.setWidth 8, now.setWidth 8]) ∧
  ∀ r : Response, (∀ left removed, r.answer = .notices left removed → removed.length ≤ 4) →
    (∀ listed after newest l, r.answer = .records listed after newest l → l.length ≤ 4) →
    r.body.length ≤ 120 ∧ r.body.head? = some (BitVec.ofNat 8 r.code.number) ∧
      receive r.bytes = .frame r.kind r.tag r.body

end
end

