-- ==== Sys2Proof/Laws/State.lean ====
section
/-! SUPPORT. Reading a field of the state after an update of one of its blocks: one lemma per field per update. -/

namespace Sys2Proof.Machine

/-! `withPending` -/

@[simp] theorem State.withPending_pending (s : State) (x : List Instr) : (s.withPending x).pending = x := rfl
@[simp] theorem State.withPending_timebase (s : State) (x : List Instr) : (s.withPending x).timebase = s.timebase := rfl
@[simp] theorem State.withPending_power (s : State) (x : List Instr) : (s.withPending x).power = s.power := rfl
@[simp] theorem State.withPending_resetCtl (s : State) (x : List Instr) : (s.withPending x).resetCtl = s.resetCtl := rfl
@[simp] theorem State.withPending_store (s : State) (x : List Instr) : (s.withPending x).store = s.store := rfl
@[simp] theorem State.withPending_edits (s : State) (x : List Instr) : (s.withPending x).edits = s.edits := rfl
@[simp] theorem State.withPending_tracker (s : State) (x : List Instr) : (s.withPending x).tracker = s.tracker := rfl
@[simp] theorem State.withPending_exposure (s : State) (x : List Instr) : (s.withPending x).exposure = s.exposure := rfl
@[simp] theorem State.withPending_jobs (s : State) (x : List Instr) : (s.withPending x).jobs = s.jobs := rfl
@[simp] theorem State.withPending_engine (s : State) (x : List Instr) : (s.withPending x).engine = s.engine := rfl
@[simp] theorem State.withPending_memPort (s : State) (x : List Instr) : (s.withPending x).memPort = s.memPort := rfl
@[simp] theorem State.withPending_records (s : State) (x : List Instr) : (s.withPending x).records = s.records := rfl
@[simp] theorem State.withPending_ports (s : State) (x : List Instr) : (s.withPending x).ports = s.ports := rfl
@[simp] theorem State.withPending_frameMem (s : State) (x : List Instr) : (s.withPending x).frameMem = s.frameMem := rfl
@[simp] theorem State.withPending_wire (s : State) (x : List Instr) : (s.withPending x).wire = s.wire := rfl
@[simp] theorem State.withPending_freeCount (s : State) (x : List Instr) : (s.withPending x).freeCount = s.freeCount := rfl
@[simp] theorem State.withPending_self (s : State) : s.withPending s.pending = s := rfl
@[simp] theorem State.withPending_twice (s : State) (x y : List Instr) : (s.withPending x).withPending y = s.withPending y := rfl

/-! `withTimebase` -/

@[simp] theorem State.withTimebase_pending (s : State) (x : Stamp) : (s.withTimebase x).pending = s.pending := rfl
@[simp] theorem State.withTimebase_timebase (s : State) (x : Stamp) : (s.withTimebase x).timebase = x := rfl
@[simp] theorem State.withTimebase_power (s : State) (x : Stamp) : (s.withTimebase x).power = s.power := rfl
@[simp] theorem State.withTimebase_resetCtl (s : State) (x : Stamp) : (s.withTimebase x).resetCtl = s.resetCtl := rfl
@[simp] theorem State.withTimebase_store (s : State) (x : Stamp) : (s.withTimebase x).store = s.store := rfl
@[simp] theorem State.withTimebase_edits (s : State) (x : Stamp) : (s.withTimebase x).edits = s.edits := rfl
@[simp] theorem State.withTimebase_tracker (s : State) (x : Stamp) : (s.withTimebase x).tracker = s.tracker := rfl
@[simp] theorem State.withTimebase_exposure (s : State) (x : Stamp) : (s.withTimebase x).exposure = s.exposure := rfl
@[simp] theorem State.withTimebase_jobs (s : State) (x : Stamp) : (s.withTimebase x).jobs = s.jobs := rfl
@[simp] theorem State.withTimebase_engine (s : State) (x : Stamp) : (s.withTimebase x).engine = s.engine := rfl
@[simp] theorem State.withTimebase_memPort (s : State) (x : Stamp) : (s.withTimebase x).memPort = s.memPort := rfl
@[simp] theorem State.withTimebase_records (s : State) (x : Stamp) : (s.withTimebase x).records = s.records := rfl
@[simp] theorem State.withTimebase_ports (s : State) (x : Stamp) : (s.withTimebase x).ports = s.ports := rfl
@[simp] theorem State.withTimebase_frameMem (s : State) (x : Stamp) : (s.withTimebase x).frameMem = s.frameMem := rfl
@[simp] theorem State.withTimebase_wire (s : State) (x : Stamp) : (s.withTimebase x).wire = s.wire := rfl
@[simp] theorem State.withTimebase_freeCount (s : State) (x : Stamp) : (s.withTimebase x).freeCount = s.freeCount := rfl
@[simp] theorem State.withTimebase_self (s : State) : s.withTimebase s.timebase = s := rfl
@[simp] theorem State.withTimebase_twice (s : State) (x y : Stamp) : (s.withTimebase x).withTimebase y = s.withTimebase y := rfl

/-! `withPower` -/

@[simp] theorem State.withPower_pending (s : State) (x : Power) : (s.withPower x).pending = s.pending := rfl
@[simp] theorem State.withPower_timebase (s : State) (x : Power) : (s.withPower x).timebase = s.timebase := rfl
@[simp] theorem State.withPower_power (s : State) (x : Power) : (s.withPower x).power = x := rfl
@[simp] theorem State.withPower_resetCtl (s : State) (x : Power) : (s.withPower x).resetCtl = s.resetCtl := rfl
@[simp] theorem State.withPower_store (s : State) (x : Power) : (s.withPower x).store = s.store := rfl
@[simp] theorem State.withPower_edits (s : State) (x : Power) : (s.withPower x).edits = s.edits := rfl
@[simp] theorem State.withPower_tracker (s : State) (x : Power) : (s.withPower x).tracker = s.tracker := rfl
@[simp] theorem State.withPower_exposure (s : State) (x : Power) : (s.withPower x).exposure = s.exposure := rfl
@[simp] theorem State.withPower_jobs (s : State) (x : Power) : (s.withPower x).jobs = s.jobs := rfl
@[simp] theorem State.withPower_engine (s : State) (x : Power) : (s.withPower x).engine = s.engine := rfl
@[simp] theorem State.withPower_memPort (s : State) (x : Power) : (s.withPower x).memPort = s.memPort := rfl
@[simp] theorem State.withPower_records (s : State) (x : Power) : (s.withPower x).records = s.records := rfl
@[simp] theorem State.withPower_ports (s : State) (x : Power) : (s.withPower x).ports = s.ports := rfl
@[simp] theorem State.withPower_frameMem (s : State) (x : Power) : (s.withPower x).frameMem = s.frameMem := rfl
@[simp] theorem State.withPower_wire (s : State) (x : Power) : (s.withPower x).wire = s.wire := rfl
@[simp] theorem State.withPower_freeCount (s : State) (x : Power) : (s.withPower x).freeCount = s.freeCount := rfl
@[simp] theorem State.withPower_self (s : State) : s.withPower s.power = s := rfl
@[simp] theorem State.withPower_twice (s : State) (x y : Power) : (s.withPower x).withPower y = s.withPower y := rfl

/-! `withResetCtl` -/

@[simp] theorem State.withResetCtl_pending (s : State) (x : ResetCtl) : (s.withResetCtl x).pending = s.pending := rfl
@[simp] theorem State.withResetCtl_timebase (s : State) (x : ResetCtl) : (s.withResetCtl x).timebase = s.timebase := rfl
@[simp] theorem State.withResetCtl_power (s : State) (x : ResetCtl) : (s.withResetCtl x).power = s.power := rfl
@[simp] theorem State.withResetCtl_resetCtl (s : State) (x : ResetCtl) : (s.withResetCtl x).resetCtl = x := rfl
@[simp] theorem State.withResetCtl_store (s : State) (x : ResetCtl) : (s.withResetCtl x).store = s.store := rfl
@[simp] theorem State.withResetCtl_edits (s : State) (x : ResetCtl) : (s.withResetCtl x).edits = s.edits := rfl
@[simp] theorem State.withResetCtl_tracker (s : State) (x : ResetCtl) : (s.withResetCtl x).tracker = s.tracker := rfl
@[simp] theorem State.withResetCtl_exposure (s : State) (x : ResetCtl) : (s.withResetCtl x).exposure = s.exposure := rfl
@[simp] theorem State.withResetCtl_jobs (s : State) (x : ResetCtl) : (s.withResetCtl x).jobs = s.jobs := rfl
@[simp] theorem State.withResetCtl_engine (s : State) (x : ResetCtl) : (s.withResetCtl x).engine = s.engine := rfl
@[simp] theorem State.withResetCtl_memPort (s : State) (x : ResetCtl) : (s.withResetCtl x).memPort = s.memPort := rfl
@[simp] theorem State.withResetCtl_records (s : State) (x : ResetCtl) : (s.withResetCtl x).records = s.records := rfl
@[simp] theorem State.withResetCtl_ports (s : State) (x : ResetCtl) : (s.withResetCtl x).ports = s.ports := rfl
@[simp] theorem State.withResetCtl_frameMem (s : State) (x : ResetCtl) : (s.withResetCtl x).frameMem = s.frameMem := rfl
@[simp] theorem State.withResetCtl_wire (s : State) (x : ResetCtl) : (s.withResetCtl x).wire = s.wire := rfl
@[simp] theorem State.withResetCtl_freeCount (s : State) (x : ResetCtl) : (s.withResetCtl x).freeCount = s.freeCount := rfl
@[simp] theorem State.withResetCtl_self (s : State) : s.withResetCtl s.resetCtl = s := rfl
@[simp] theorem State.withResetCtl_twice (s : State) (x y : ResetCtl) : (s.withResetCtl x).withResetCtl y = s.withResetCtl y := rfl

/-! `withStore` -/

@[simp] theorem State.withStore_pending (s : State) (x : Store) : (s.withStore x).pending = s.pending := rfl
@[simp] theorem State.withStore_timebase (s : State) (x : Store) : (s.withStore x).timebase = s.timebase := rfl
@[simp] theorem State.withStore_power (s : State) (x : Store) : (s.withStore x).power = s.power := rfl
@[simp] theorem State.withStore_resetCtl (s : State) (x : Store) : (s.withStore x).resetCtl = s.resetCtl := rfl
@[simp] theorem State.withStore_store (s : State) (x : Store) : (s.withStore x).store = x := rfl
@[simp] theorem State.withStore_edits (s : State) (x : Store) : (s.withStore x).edits = s.edits := rfl
@[simp] theorem State.withStore_tracker (s : State) (x : Store) : (s.withStore x).tracker = s.tracker := rfl
@[simp] theorem State.withStore_exposure (s : State) (x : Store) : (s.withStore x).exposure = s.exposure := rfl
@[simp] theorem State.withStore_jobs (s : State) (x : Store) : (s.withStore x).jobs = s.jobs := rfl
@[simp] theorem State.withStore_engine (s : State) (x : Store) : (s.withStore x).engine = s.engine := rfl
@[simp] theorem State.withStore_memPort (s : State) (x : Store) : (s.withStore x).memPort = s.memPort := rfl
@[simp] theorem State.withStore_records (s : State) (x : Store) : (s.withStore x).records = s.records := rfl
@[simp] theorem State.withStore_ports (s : State) (x : Store) : (s.withStore x).ports = s.ports := rfl
@[simp] theorem State.withStore_frameMem (s : State) (x : Store) : (s.withStore x).frameMem = s.frameMem := rfl
@[simp] theorem State.withStore_wire (s : State) (x : Store) : (s.withStore x).wire = s.wire := rfl
@[simp] theorem State.withStore_freeCount (s : State) (x : Store) : (s.withStore x).freeCount = s.freeCount := rfl
@[simp] theorem State.withStore_self (s : State) : s.withStore s.store = s := rfl
@[simp] theorem State.withStore_twice (s : State) (x y : Store) : (s.withStore x).withStore y = s.withStore y := rfl

/-! `withEdits` -/

@[simp] theorem State.withEdits_pending (s : State) (x : Edits) : (s.withEdits x).pending = s.pending := rfl
@[simp] theorem State.withEdits_timebase (s : State) (x : Edits) : (s.withEdits x).timebase = s.timebase := rfl
@[simp] theorem State.withEdits_power (s : State) (x : Edits) : (s.withEdits x).power = s.power := rfl
@[simp] theorem State.withEdits_resetCtl (s : State) (x : Edits) : (s.withEdits x).resetCtl = s.resetCtl := rfl
@[simp] theorem State.withEdits_store (s : State) (x : Edits) : (s.withEdits x).store = s.store := rfl
@[simp] theorem State.withEdits_edits (s : State) (x : Edits) : (s.withEdits x).edits = x := rfl
@[simp] theorem State.withEdits_tracker (s : State) (x : Edits) : (s.withEdits x).tracker = s.tracker := rfl
@[simp] theorem State.withEdits_exposure (s : State) (x : Edits) : (s.withEdits x).exposure = s.exposure := rfl
@[simp] theorem State.withEdits_jobs (s : State) (x : Edits) : (s.withEdits x).jobs = s.jobs := rfl
@[simp] theorem State.withEdits_engine (s : State) (x : Edits) : (s.withEdits x).engine = s.engine := rfl
@[simp] theorem State.withEdits_memPort (s : State) (x : Edits) : (s.withEdits x).memPort = s.memPort := rfl
@[simp] theorem State.withEdits_records (s : State) (x : Edits) : (s.withEdits x).records = s.records := rfl
@[simp] theorem State.withEdits_ports (s : State) (x : Edits) : (s.withEdits x).ports = s.ports := rfl
@[simp] theorem State.withEdits_frameMem (s : State) (x : Edits) : (s.withEdits x).frameMem = s.frameMem := rfl
@[simp] theorem State.withEdits_wire (s : State) (x : Edits) : (s.withEdits x).wire = s.wire := rfl
@[simp] theorem State.withEdits_freeCount (s : State) (x : Edits) : (s.withEdits x).freeCount = s.freeCount := rfl
@[simp] theorem State.withEdits_self (s : State) : s.withEdits s.edits = s := rfl
@[simp] theorem State.withEdits_twice (s : State) (x y : Edits) : (s.withEdits x).withEdits y = s.withEdits y := rfl

/-! `withTracker` -/

@[simp] theorem State.withTracker_pending (s : State) (x : Tracker) : (s.withTracker x).pending = s.pending := rfl
@[simp] theorem State.withTracker_timebase (s : State) (x : Tracker) : (s.withTracker x).timebase = s.timebase := rfl
@[simp] theorem State.withTracker_power (s : State) (x : Tracker) : (s.withTracker x).power = s.power := rfl
@[simp] theorem State.withTracker_resetCtl (s : State) (x : Tracker) : (s.withTracker x).resetCtl = s.resetCtl := rfl
@[simp] theorem State.withTracker_store (s : State) (x : Tracker) : (s.withTracker x).store = s.store := rfl
@[simp] theorem State.withTracker_edits (s : State) (x : Tracker) : (s.withTracker x).edits = s.edits := rfl
@[simp] theorem State.withTracker_tracker (s : State) (x : Tracker) : (s.withTracker x).tracker = x := rfl
@[simp] theorem State.withTracker_exposure (s : State) (x : Tracker) : (s.withTracker x).exposure = s.exposure := rfl
@[simp] theorem State.withTracker_jobs (s : State) (x : Tracker) : (s.withTracker x).jobs = s.jobs := rfl
@[simp] theorem State.withTracker_engine (s : State) (x : Tracker) : (s.withTracker x).engine = s.engine := rfl
@[simp] theorem State.withTracker_memPort (s : State) (x : Tracker) : (s.withTracker x).memPort = s.memPort := rfl
@[simp] theorem State.withTracker_records (s : State) (x : Tracker) : (s.withTracker x).records = s.records := rfl
@[simp] theorem State.withTracker_ports (s : State) (x : Tracker) : (s.withTracker x).ports = s.ports := rfl
@[simp] theorem State.withTracker_frameMem (s : State) (x : Tracker) : (s.withTracker x).frameMem = s.frameMem := rfl
@[simp] theorem State.withTracker_wire (s : State) (x : Tracker) : (s.withTracker x).wire = s.wire := rfl
@[simp] theorem State.withTracker_freeCount (s : State) (x : Tracker) : (s.withTracker x).freeCount = s.freeCount := rfl
@[simp] theorem State.withTracker_self (s : State) : s.withTracker s.tracker = s := rfl
@[simp] theorem State.withTracker_twice (s : State) (x y : Tracker) : (s.withTracker x).withTracker y = s.withTracker y := rfl

/-! `withExposure` -/

@[simp] theorem State.withExposure_pending (s : State) (x : ExposureUnit) : (s.withExposure x).pending = s.pending := rfl
@[simp] theorem State.withExposure_timebase (s : State) (x : ExposureUnit) : (s.withExposure x).timebase = s.timebase := rfl
@[simp] theorem State.withExposure_power (s : State) (x : ExposureUnit) : (s.withExposure x).power = s.power := rfl
@[simp] theorem State.withExposure_resetCtl (s : State) (x : ExposureUnit) : (s.withExposure x).resetCtl = s.resetCtl := rfl
@[simp] theorem State.withExposure_store (s : State) (x : ExposureUnit) : (s.withExposure x).store = s.store := rfl
@[simp] theorem State.withExposure_edits (s : State) (x : ExposureUnit) : (s.withExposure x).edits = s.edits := rfl
@[simp] theorem State.withExposure_tracker (s : State) (x : ExposureUnit) : (s.withExposure x).tracker = s.tracker := rfl
@[simp] theorem State.withExposure_exposure (s : State) (x : ExposureUnit) : (s.withExposure x).exposure = x := rfl
@[simp] theorem State.withExposure_jobs (s : State) (x : ExposureUnit) : (s.withExposure x).jobs = s.jobs := rfl
@[simp] theorem State.withExposure_engine (s : State) (x : ExposureUnit) : (s.withExposure x).engine = s.engine := rfl
@[simp] theorem State.withExposure_memPort (s : State) (x : ExposureUnit) : (s.withExposure x).memPort = s.memPort := rfl
@[simp] theorem State.withExposure_records (s : State) (x : ExposureUnit) : (s.withExposure x).records = s.records := rfl
@[simp] theorem State.withExposure_ports (s : State) (x : ExposureUnit) : (s.withExposure x).ports = s.ports := rfl
@[simp] theorem State.withExposure_frameMem (s : State) (x : ExposureUnit) : (s.withExposure x).frameMem = s.frameMem := rfl
@[simp] theorem State.withExposure_wire (s : State) (x : ExposureUnit) : (s.withExposure x).wire = s.wire := rfl
@[simp] theorem State.withExposure_freeCount (s : State) (x : ExposureUnit) : (s.withExposure x).freeCount = s.freeCount := rfl
@[simp] theorem State.withExposure_self (s : State) : s.withExposure s.exposure = s := rfl
@[simp] theorem State.withExposure_twice (s : State) (x y : ExposureUnit) : (s.withExposure x).withExposure y = s.withExposure y := rfl

/-! `withJobs` -/

@[simp] theorem State.withJobs_pending (s : State) (x : JobManager) : (s.withJobs x).pending = s.pending := rfl
@[simp] theorem State.withJobs_timebase (s : State) (x : JobManager) : (s.withJobs x).timebase = s.timebase := rfl
@[simp] theorem State.withJobs_power (s : State) (x : JobManager) : (s.withJobs x).power = s.power := rfl
@[simp] theorem State.withJobs_resetCtl (s : State) (x : JobManager) : (s.withJobs x).resetCtl = s.resetCtl := rfl
@[simp] theorem State.withJobs_store (s : State) (x : JobManager) : (s.withJobs x).store = s.store := rfl
@[simp] theorem State.withJobs_edits (s : State) (x : JobManager) : (s.withJobs x).edits = s.edits := rfl
@[simp] theorem State.withJobs_tracker (s : State) (x : JobManager) : (s.withJobs x).tracker = s.tracker := rfl
@[simp] theorem State.withJobs_exposure (s : State) (x : JobManager) : (s.withJobs x).exposure = s.exposure := rfl
@[simp] theorem State.withJobs_jobs (s : State) (x : JobManager) : (s.withJobs x).jobs = x := rfl
@[simp] theorem State.withJobs_engine (s : State) (x : JobManager) : (s.withJobs x).engine = s.engine := rfl
@[simp] theorem State.withJobs_memPort (s : State) (x : JobManager) : (s.withJobs x).memPort = s.memPort := rfl
@[simp] theorem State.withJobs_records (s : State) (x : JobManager) : (s.withJobs x).records = s.records := rfl
@[simp] theorem State.withJobs_ports (s : State) (x : JobManager) : (s.withJobs x).ports = s.ports := rfl
@[simp] theorem State.withJobs_frameMem (s : State) (x : JobManager) : (s.withJobs x).frameMem = s.frameMem := rfl
@[simp] theorem State.withJobs_wire (s : State) (x : JobManager) : (s.withJobs x).wire = s.wire := rfl
@[simp] theorem State.withJobs_freeCount (s : State) (x : JobManager) : (s.withJobs x).freeCount = s.freeCount := rfl
@[simp] theorem State.withJobs_self (s : State) : s.withJobs s.jobs = s := rfl
@[simp] theorem State.withJobs_twice (s : State) (x y : JobManager) : (s.withJobs x).withJobs y = s.withJobs y := rfl

/-! `withEngine` -/

@[simp] theorem State.withEngine_pending (s : State) (x : Engine) : (s.withEngine x).pending = s.pending := rfl
@[simp] theorem State.withEngine_timebase (s : State) (x : Engine) : (s.withEngine x).timebase = s.timebase := rfl
@[simp] theorem State.withEngine_power (s : State) (x : Engine) : (s.withEngine x).power = s.power := rfl
@[simp] theorem State.withEngine_resetCtl (s : State) (x : Engine) : (s.withEngine x).resetCtl = s.resetCtl := rfl
@[simp] theorem State.withEngine_store (s : State) (x : Engine) : (s.withEngine x).store = s.store := rfl
@[simp] theorem State.withEngine_edits (s : State) (x : Engine) : (s.withEngine x).edits = s.edits := rfl
@[simp] theorem State.withEngine_tracker (s : State) (x : Engine) : (s.withEngine x).tracker = s.tracker := rfl
@[simp] theorem State.withEngine_exposure (s : State) (x : Engine) : (s.withEngine x).exposure = s.exposure := rfl
@[simp] theorem State.withEngine_jobs (s : State) (x : Engine) : (s.withEngine x).jobs = s.jobs := rfl
@[simp] theorem State.withEngine_engine (s : State) (x : Engine) : (s.withEngine x).engine = x := rfl
@[simp] theorem State.withEngine_memPort (s : State) (x : Engine) : (s.withEngine x).memPort = s.memPort := rfl
@[simp] theorem State.withEngine_records (s : State) (x : Engine) : (s.withEngine x).records = s.records := rfl
@[simp] theorem State.withEngine_ports (s : State) (x : Engine) : (s.withEngine x).ports = s.ports := rfl
@[simp] theorem State.withEngine_frameMem (s : State) (x : Engine) : (s.withEngine x).frameMem = s.frameMem := rfl
@[simp] theorem State.withEngine_wire (s : State) (x : Engine) : (s.withEngine x).wire = s.wire := rfl
@[simp] theorem State.withEngine_freeCount (s : State) (x : Engine) : (s.withEngine x).freeCount = s.freeCount := rfl
@[simp] theorem State.withEngine_self (s : State) : s.withEngine s.engine = s := rfl
@[simp] theorem State.withEngine_twice (s : State) (x y : Engine) : (s.withEngine x).withEngine y = s.withEngine y := rfl

/-! `withMemPort` -/

@[simp] theorem State.withMemPort_pending (s : State) (x : MemPort) : (s.withMemPort x).pending = s.pending := rfl
@[simp] theorem State.withMemPort_timebase (s : State) (x : MemPort) : (s.withMemPort x).timebase = s.timebase := rfl
@[simp] theorem State.withMemPort_power (s : State) (x : MemPort) : (s.withMemPort x).power = s.power := rfl
@[simp] theorem State.withMemPort_resetCtl (s : State) (x : MemPort) : (s.withMemPort x).resetCtl = s.resetCtl := rfl
@[simp] theorem State.withMemPort_store (s : State) (x : MemPort) : (s.withMemPort x).store = s.store := rfl
@[simp] theorem State.withMemPort_edits (s : State) (x : MemPort) : (s.withMemPort x).edits = s.edits := rfl
@[simp] theorem State.withMemPort_tracker (s : State) (x : MemPort) : (s.withMemPort x).tracker = s.tracker := rfl
@[simp] theorem State.withMemPort_exposure (s : State) (x : MemPort) : (s.withMemPort x).exposure = s.exposure := rfl
@[simp] theorem State.withMemPort_jobs (s : State) (x : MemPort) : (s.withMemPort x).jobs = s.jobs := rfl
@[simp] theorem State.withMemPort_engine (s : State) (x : MemPort) : (s.withMemPort x).engine = s.engine := rfl
@[simp] theorem State.withMemPort_memPort (s : State) (x : MemPort) : (s.withMemPort x).memPort = x := rfl
@[simp] theorem State.withMemPort_records (s : State) (x : MemPort) : (s.withMemPort x).records = s.records := rfl
@[simp] theorem State.withMemPort_ports (s : State) (x : MemPort) : (s.withMemPort x).ports = s.ports := rfl
@[simp] theorem State.withMemPort_frameMem (s : State) (x : MemPort) : (s.withMemPort x).frameMem = s.frameMem := rfl
@[simp] theorem State.withMemPort_wire (s : State) (x : MemPort) : (s.withMemPort x).wire = s.wire := rfl
@[simp] theorem State.withMemPort_freeCount (s : State) (x : MemPort) : (s.withMemPort x).freeCount = s.freeCount := rfl
@[simp] theorem State.withMemPort_self (s : State) : s.withMemPort s.memPort = s := rfl
@[simp] theorem State.withMemPort_twice (s : State) (x y : MemPort) : (s.withMemPort x).withMemPort y = s.withMemPort y := rfl

/-! `withRecords` -/

@[simp] theorem State.withRecords_pending (s : State) (x : List FrameRecord) : (s.withRecords x).pending = s.pending := rfl
@[simp] theorem State.withRecords_timebase (s : State) (x : List FrameRecord) : (s.withRecords x).timebase = s.timebase := rfl
@[simp] theorem State.withRecords_power (s : State) (x : List FrameRecord) : (s.withRecords x).power = s.power := rfl
@[simp] theorem State.withRecords_resetCtl (s : State) (x : List FrameRecord) : (s.withRecords x).resetCtl = s.resetCtl := rfl
@[simp] theorem State.withRecords_store (s : State) (x : List FrameRecord) : (s.withRecords x).store = s.store := rfl
@[simp] theorem State.withRecords_edits (s : State) (x : List FrameRecord) : (s.withRecords x).edits = s.edits := rfl
@[simp] theorem State.withRecords_tracker (s : State) (x : List FrameRecord) : (s.withRecords x).tracker = s.tracker := rfl
@[simp] theorem State.withRecords_exposure (s : State) (x : List FrameRecord) : (s.withRecords x).exposure = s.exposure := rfl
@[simp] theorem State.withRecords_jobs (s : State) (x : List FrameRecord) : (s.withRecords x).jobs = s.jobs := rfl
@[simp] theorem State.withRecords_engine (s : State) (x : List FrameRecord) : (s.withRecords x).engine = s.engine := rfl
@[simp] theorem State.withRecords_memPort (s : State) (x : List FrameRecord) : (s.withRecords x).memPort = s.memPort := rfl
@[simp] theorem State.withRecords_records (s : State) (x : List FrameRecord) : (s.withRecords x).records = x := rfl
@[simp] theorem State.withRecords_ports (s : State) (x : List FrameRecord) : (s.withRecords x).ports = s.ports := rfl
@[simp] theorem State.withRecords_frameMem (s : State) (x : List FrameRecord) : (s.withRecords x).frameMem = s.frameMem := rfl
@[simp] theorem State.withRecords_wire (s : State) (x : List FrameRecord) : (s.withRecords x).wire = s.wire := rfl
@[simp] theorem State.withRecords_freeCount (s : State) (x : List FrameRecord) : (s.withRecords x).freeCount = s.freeCount := rfl
@[simp] theorem State.withRecords_self (s : State) : s.withRecords s.records = s := rfl
@[simp] theorem State.withRecords_twice (s : State) (x y : List FrameRecord) : (s.withRecords x).withRecords y = s.withRecords y := rfl

/-! `withPorts` -/

@[simp] theorem State.withPorts_pending (s : State) (x : Ports) : (s.withPorts x).pending = s.pending := rfl
@[simp] theorem State.withPorts_timebase (s : State) (x : Ports) : (s.withPorts x).timebase = s.timebase := rfl
@[simp] theorem State.withPorts_power (s : State) (x : Ports) : (s.withPorts x).power = s.power := rfl
@[simp] theorem State.withPorts_resetCtl (s : State) (x : Ports) : (s.withPorts x).resetCtl = s.resetCtl := rfl
@[simp] theorem State.withPorts_store (s : State) (x : Ports) : (s.withPorts x).store = s.store := rfl
@[simp] theorem State.withPorts_edits (s : State) (x : Ports) : (s.withPorts x).edits = s.edits := rfl
@[simp] theorem State.withPorts_tracker (s : State) (x : Ports) : (s.withPorts x).tracker = s.tracker := rfl
@[simp] theorem State.withPorts_exposure (s : State) (x : Ports) : (s.withPorts x).exposure = s.exposure := rfl
@[simp] theorem State.withPorts_jobs (s : State) (x : Ports) : (s.withPorts x).jobs = s.jobs := rfl
@[simp] theorem State.withPorts_engine (s : State) (x : Ports) : (s.withPorts x).engine = s.engine := rfl
@[simp] theorem State.withPorts_memPort (s : State) (x : Ports) : (s.withPorts x).memPort = s.memPort := rfl
@[simp] theorem State.withPorts_records (s : State) (x : Ports) : (s.withPorts x).records = s.records := rfl
@[simp] theorem State.withPorts_ports (s : State) (x : Ports) : (s.withPorts x).ports = x := rfl
@[simp] theorem State.withPorts_frameMem (s : State) (x : Ports) : (s.withPorts x).frameMem = s.frameMem := rfl
@[simp] theorem State.withPorts_wire (s : State) (x : Ports) : (s.withPorts x).wire = s.wire := rfl
@[simp] theorem State.withPorts_freeCount (s : State) (x : Ports) : (s.withPorts x).freeCount = s.freeCount := rfl
@[simp] theorem State.withPorts_self (s : State) : s.withPorts s.ports = s := rfl
@[simp] theorem State.withPorts_twice (s : State) (x y : Ports) : (s.withPorts x).withPorts y = s.withPorts y := rfl

/-! `withFrameMem` -/

@[simp] theorem State.withFrameMem_pending (s : State) (x : Memory) : (s.withFrameMem x).pending = s.pending := rfl
@[simp] theorem State.withFrameMem_timebase (s : State) (x : Memory) : (s.withFrameMem x).timebase = s.timebase := rfl
@[simp] theorem State.withFrameMem_power (s : State) (x : Memory) : (s.withFrameMem x).power = s.power := rfl
@[simp] theorem State.withFrameMem_resetCtl (s : State) (x : Memory) : (s.withFrameMem x).resetCtl = s.resetCtl := rfl
@[simp] theorem State.withFrameMem_store (s : State) (x : Memory) : (s.withFrameMem x).store = s.store := rfl
@[simp] theorem State.withFrameMem_edits (s : State) (x : Memory) : (s.withFrameMem x).edits = s.edits := rfl
@[simp] theorem State.withFrameMem_tracker (s : State) (x : Memory) : (s.withFrameMem x).tracker = s.tracker := rfl
@[simp] theorem State.withFrameMem_exposure (s : State) (x : Memory) : (s.withFrameMem x).exposure = s.exposure := rfl
@[simp] theorem State.withFrameMem_jobs (s : State) (x : Memory) : (s.withFrameMem x).jobs = s.jobs := rfl
@[simp] theorem State.withFrameMem_engine (s : State) (x : Memory) : (s.withFrameMem x).engine = s.engine := rfl
@[simp] theorem State.withFrameMem_memPort (s : State) (x : Memory) : (s.withFrameMem x).memPort = s.memPort := rfl
@[simp] theorem State.withFrameMem_records (s : State) (x : Memory) : (s.withFrameMem x).records = s.records := rfl
@[simp] theorem State.withFrameMem_ports (s : State) (x : Memory) : (s.withFrameMem x).ports = s.ports := rfl
@[simp] theorem State.withFrameMem_frameMem (s : State) (x : Memory) : (s.withFrameMem x).frameMem = x := rfl
@[simp] theorem State.withFrameMem_wire (s : State) (x : Memory) : (s.withFrameMem x).wire = s.wire := rfl
@[simp] theorem State.withFrameMem_freeCount (s : State) (x : Memory) : (s.withFrameMem x).freeCount = s.freeCount := rfl
@[simp] theorem State.withFrameMem_self (s : State) : s.withFrameMem s.frameMem = s := rfl
@[simp] theorem State.withFrameMem_twice (s : State) (x y : Memory) : (s.withFrameMem x).withFrameMem y = s.withFrameMem y := rfl

/-! `withWire` -/

@[simp] theorem State.withWire_pending (s : State) (x : Wire) : (s.withWire x).pending = s.pending := rfl
@[simp] theorem State.withWire_timebase (s : State) (x : Wire) : (s.withWire x).timebase = s.timebase := rfl
@[simp] theorem State.withWire_power (s : State) (x : Wire) : (s.withWire x).power = s.power := rfl
@[simp] theorem State.withWire_resetCtl (s : State) (x : Wire) : (s.withWire x).resetCtl = s.resetCtl := rfl
@[simp] theorem State.withWire_store (s : State) (x : Wire) : (s.withWire x).store = s.store := rfl
@[simp] theorem State.withWire_edits (s : State) (x : Wire) : (s.withWire x).edits = s.edits := rfl
@[simp] theorem State.withWire_tracker (s : State) (x : Wire) : (s.withWire x).tracker = s.tracker := rfl
@[simp] theorem State.withWire_exposure (s : State) (x : Wire) : (s.withWire x).exposure = s.exposure := rfl
@[simp] theorem State.withWire_jobs (s : State) (x : Wire) : (s.withWire x).jobs = s.jobs := rfl
@[simp] theorem State.withWire_engine (s : State) (x : Wire) : (s.withWire x).engine = s.engine := rfl
@[simp] theorem State.withWire_memPort (s : State) (x : Wire) : (s.withWire x).memPort = s.memPort := rfl
@[simp] theorem State.withWire_records (s : State) (x : Wire) : (s.withWire x).records = s.records := rfl
@[simp] theorem State.withWire_ports (s : State) (x : Wire) : (s.withWire x).ports = s.ports := rfl
@[simp] theorem State.withWire_frameMem (s : State) (x : Wire) : (s.withWire x).frameMem = s.frameMem := rfl
@[simp] theorem State.withWire_wire (s : State) (x : Wire) : (s.withWire x).wire = x := rfl
@[simp] theorem State.withWire_freeCount (s : State) (x : Wire) : (s.withWire x).freeCount = s.freeCount := rfl
@[simp] theorem State.withWire_self (s : State) : s.withWire s.wire = s := rfl
@[simp] theorem State.withWire_twice (s : State) (x y : Wire) : (s.withWire x).withWire y = s.withWire y := rfl

/-! `withFreeCount` -/

@[simp] theorem State.withFreeCount_pending (s : State) (x : Nat) : (s.withFreeCount x).pending = s.pending := rfl
@[simp] theorem State.withFreeCount_timebase (s : State) (x : Nat) : (s.withFreeCount x).timebase = s.timebase := rfl
@[simp] theorem State.withFreeCount_power (s : State) (x : Nat) : (s.withFreeCount x).power = s.power := rfl
@[simp] theorem State.withFreeCount_resetCtl (s : State) (x : Nat) : (s.withFreeCount x).resetCtl = s.resetCtl := rfl
@[simp] theorem State.withFreeCount_store (s : State) (x : Nat) : (s.withFreeCount x).store = s.store := rfl
@[simp] theorem State.withFreeCount_edits (s : State) (x : Nat) : (s.withFreeCount x).edits = s.edits := rfl
@[simp] theorem State.withFreeCount_tracker (s : State) (x : Nat) : (s.withFreeCount x).tracker = s.tracker := rfl
@[simp] theorem State.withFreeCount_exposure (s : State) (x : Nat) : (s.withFreeCount x).exposure = s.exposure := rfl
@[simp] theorem State.withFreeCount_jobs (s : State) (x : Nat) : (s.withFreeCount x).jobs = s.jobs := rfl
@[simp] theorem State.withFreeCount_engine (s : State) (x : Nat) : (s.withFreeCount x).engine = s.engine := rfl
@[simp] theorem State.withFreeCount_memPort (s : State) (x : Nat) : (s.withFreeCount x).memPort = s.memPort := rfl
@[simp] theorem State.withFreeCount_records (s : State) (x : Nat) : (s.withFreeCount x).records = s.records := rfl
@[simp] theorem State.withFreeCount_ports (s : State) (x : Nat) : (s.withFreeCount x).ports = s.ports := rfl
@[simp] theorem State.withFreeCount_frameMem (s : State) (x : Nat) : (s.withFreeCount x).frameMem = s.frameMem := rfl
@[simp] theorem State.withFreeCount_wire (s : State) (x : Nat) : (s.withFreeCount x).wire = s.wire := rfl
@[simp] theorem State.withFreeCount_freeCount (s : State) (x : Nat) : (s.withFreeCount x).freeCount = x := rfl
@[simp] theorem State.withFreeCount_self (s : State) : s.withFreeCount s.freeCount = s := rfl
@[simp] theorem State.withFreeCount_twice (s : State) (x y : Nat) : (s.withFreeCount x).withFreeCount y = s.withFreeCount y := rfl

end Sys2Proof.Machine
end

