-- ==== Sys2Proof/Laws/Ports.lean ====
section
/-! SUPPORT. Port records: reading after a write, what raising notices and placing responses can do, and how a property of states
passes through a request. -/

namespace Sys2Proof.Machine

/-! ### Reading a port record after a write -/

@[simp] theorem Ports.get_set_same (x : Ports) (p : Port) (r : PortRec) : (x.set p r).get p = r := by cases p <;> rfl

theorem Ports.get_set_other (x : Ports) (p q : Port) (r : PortRec) (h : q ≠ p) : (x.set p r).get q = x.get q := by
  cases p <;> cases q <;> first | rfl | exact absurd rfl h

@[simp] theorem Ports.set_set (x : Ports) (p : Port) (r r' : PortRec) : (x.set p r).set p r' = x.set p r' := by
  cases p <;> rfl

theorem Ports.set_comm (x : Ports) (p q : Port) (r r' : PortRec) (h : p ≠ q) :
    (x.set p r).set q r' = (x.set q r').set p r := by
  cases p <;> cases q <;> first | rfl | exact absurd rfl h

@[simp] theorem Ports.set_get (x : Ports) (p : Port) : x.set p (x.get p) = x := by cases p <;> rfl

/-- Two port sets that read alike on every port are the same. -/
theorem Ports.ext_get {x y : Ports} (h : ∀ p, x.get p = y.get p) : x = y := by
  have h1 := h .body; have h2 := h .mount; have h3 := h .transmitter
  cases x; cases y; simp_all [Ports.get]

/-- Writing a port record changes the port records alone. -/
@[simp] theorem State.setPort_keeps (s : State) (p : Port) (r : PortRec) :
    (s.setPort p r).pending = s.pending ∧ (s.setPort p r).timebase = s.timebase ∧ (s.setPort p r).power = s.power ∧
    (s.setPort p r).resetCtl = s.resetCtl ∧ (s.setPort p r).store = s.store ∧ (s.setPort p r).edits = s.edits ∧
    (s.setPort p r).tracker = s.tracker ∧ (s.setPort p r).exposure = s.exposure ∧ (s.setPort p r).jobs = s.jobs ∧
    (s.setPort p r).engine = s.engine ∧ (s.setPort p r).memPort = s.memPort ∧ (s.setPort p r).records = s.records ∧
    (s.setPort p r).frameMem = s.frameMem ∧ (s.setPort p r).wire = s.wire ∧
    (s.setPort p r).freeCount = s.freeCount := by simp [State.setPort]

@[simp] theorem State.port_setPort_same (s : State) (p : Port) (r : PortRec) : (s.setPort p r).port p = r := by
  simp [State.setPort, State.port]

theorem State.port_setPort_other (s : State) (p q : Port) (r : PortRec) (h : q ≠ p) : (s.setPort p r).port q = s.port q := by
  simp [State.setPort, State.port, Ports.get_set_other _ _ _ _ h]

@[simp] theorem State.setPort_setPort (s : State) (p : Port) (r r' : PortRec) :
    (s.setPort p r).setPort p r' = s.setPort p r' := by simp [State.setPort]

@[simp] theorem State.setPort_port (s : State) (p : Port) : s.setPort p (s.port p) = s := by simp [State.setPort, State.port]

/-! ### Notices -/

/-- Raising a notice changes the port records alone. -/
@[simp] theorem State.raise_keeps (s : State) (p : Port) (n : Notice) :
    (s.raise p n).pending = s.pending ∧ (s.raise p n).timebase = s.timebase ∧ (s.raise p n).power = s.power ∧
    (s.raise p n).resetCtl = s.resetCtl ∧ (s.raise p n).store = s.store ∧ (s.raise p n).edits = s.edits ∧
    (s.raise p n).tracker = s.tracker ∧ (s.raise p n).exposure = s.exposure ∧ (s.raise p n).jobs = s.jobs ∧
    (s.raise p n).engine = s.engine ∧ (s.raise p n).memPort = s.memPort ∧ (s.raise p n).records = s.records ∧
    (s.raise p n).frameMem = s.frameMem ∧ (s.raise p n).wire = s.wire ∧ (s.raise p n).freeCount = s.freeCount := by
  simp [State.raise]

/-- R171: raising a notice changes the list of its port alone; link, request, response and mask stay. -/
@[simp] theorem State.raise_port (s : State) (p : Port) (n : Notice) :
    (s.raise p n).port p = { s.port p with notices := raiseNotice n (s.port p).notices } := by simp [State.raise]

theorem State.raise_port_other (s : State) (p q : Port) (n : Notice) (h : q ≠ p) : (s.raise p n).port q = s.port q := by
  simp [State.raise, State.port_setPort_other _ _ _ _ h]

theorem State.raise_link (s : State) (p q : Port) (n : Notice) : ((s.raise p n).port q).link = (s.port q).link := by
  by_cases h : q = p
  · subst h; simp
  · rw [State.raise_port_other _ _ _ _ h]

/-- A notice of a kind that is not coalesced joins the end of the list. -/
theorem raiseNotice_append (n : Notice) (l : List Notice) (h : ∀ m ∈ l, coalesce m n = none) :
    raiseNotice n l = l ++ [n] := by
  induction l with
  | nil => rfl
  | cons m rest ih =>
    have hm := h m (by simp)
    simp only [raiseNotice, hm, List.cons_append]
    rw [ih fun x hx => h x (by simp [hx])]

/-- JOB_ENDED is not coalesced. -/
@[simp] theorem coalesce_jobEnded (m : Notice) (j : Nat) (r : JobResult) (f : ResultFlags) (b : Nat) :
    coalesce m (.jobEnded j r f b) = none := by cases m <;> rfl

/-- R117: JOB_ENDED joins the end of the list. -/
@[simp] theorem raiseNotice_jobEnded (j : Nat) (r : JobResult) (f : ResultFlags) (b : Nat) (l : List Notice) :
    raiseNotice (.jobEnded j r f b) l = l ++ [.jobEnded j r f b] := raiseNotice_append _ _ (by simp)

/-- What coalesces has the same kind, and keeps it. -/
theorem coalesce_kind {m n k : Notice} (h : coalesce m n = some k) : m.kindBit = n.kindBit ∧ k.kindBit = n.kindBit := by
  cases m <;> cases n <;> simp_all [coalesce, Notice.kindBit] <;> subst h <;> rfl

/-- Notices of different kinds do not coalesce; those of one coalesced kind do. -/
theorem coalesce_none {m n : Notice} (h : coalesce m n = none) : m.kindBit ≠ n.kindBit ∨ n.kindBit = 0 := by
  cases m <;> cases n <;> simp_all [coalesce, Notice.kindBit]

/-! ### Placing responses and taking requests -/

/-- Placing a response changes the port records alone. -/
@[simp] theorem State.place_keeps (s : State) (p : Port) (r : Response) :
    (s.place p r).pending = s.pending ∧ (s.place p r).timebase = s.timebase ∧ (s.place p r).power = s.power ∧
    (s.place p r).resetCtl = s.resetCtl ∧ (s.place p r).store = s.store ∧ (s.place p r).edits = s.edits ∧
    (s.place p r).tracker = s.tracker ∧ (s.place p r).exposure = s.exposure ∧ (s.place p r).jobs = s.jobs ∧
    (s.place p r).engine = s.engine ∧ (s.place p r).memPort = s.memPort ∧ (s.place p r).records = s.records ∧
    (s.place p r).frameMem = s.frameMem ∧ (s.place p r).wire = s.wire ∧ (s.place p r).freeCount = s.freeCount := by
  simp [State.place]

@[simp] theorem State.place_port (s : State) (p : Port) (r : Response) :
    (s.place p r).port p = { s.port p with link := .responseWaiting, request := none, response := some r } := by
  simp [State.place]

theorem State.place_port_other (s : State) (p q : Port) (r : Response) (h : q ≠ p) : (s.place p r).port q = s.port q := by
  simp [State.place, State.port_setPort_other _ _ _ _ h]

/-- Starting a request changes the port records alone. -/
@[simp] theorem State.startRequest_keeps (s : State) (p : Port) (k t : Byte) :
    (s.startRequest p k t).pending = s.pending ∧ (s.startRequest p k t).timebase = s.timebase ∧
    (s.startRequest p k t).power = s.power ∧ (s.startRequest p k t).resetCtl = s.resetCtl ∧
    (s.startRequest p k t).store = s.store ∧ (s.startRequest p k t).edits = s.edits ∧
    (s.startRequest p k t).tracker = s.tracker ∧ (s.startRequest p k t).exposure = s.exposure ∧
    (s.startRequest p k t).jobs = s.jobs ∧ (s.startRequest p k t).engine = s.engine ∧
    (s.startRequest p k t).memPort = s.memPort ∧ (s.startRequest p k t).records = s.records ∧
    (s.startRequest p k t).frameMem = s.frameMem ∧ (s.startRequest p k t).wire = s.wire ∧
    (s.startRequest p k t).freeCount = s.freeCount := by simp [State.startRequest]

@[simp] theorem State.startRequest_port (s : State) (p : Port) (k t : Byte) :
    (s.startRequest p k t).port p = { s.port p with link := .inProgress, request := some (k, t) } := by
  simp [State.startRequest]

theorem State.startRequest_port_other (s : State) (p q : Port) (k t : Byte) (h : q ≠ p) :
    (s.startRequest p k t).port q = s.port q := by simp [State.startRequest, State.port_setPort_other _ _ _ _ h]

/-- A response placed over the request it answers leaves no trace of the request. -/
@[simp] theorem State.place_startRequest (s : State) (p : Port) (k t : Byte) (r : Response) :
    (s.startRequest p k t).place p r = s.place p r := by simp [State.startRequest, State.place]

/-! ### What a port sends -/

/-- Sending changes the record of what was sent alone. -/
@[simp] theorem State.send_keeps (s : State) (p : Port) (x : Sent) :
    (s.send p x).pending = s.pending ∧ (s.send p x).timebase = s.timebase ∧ (s.send p x).power = s.power ∧
    (s.send p x).resetCtl = s.resetCtl ∧ (s.send p x).store = s.store ∧ (s.send p x).edits = s.edits ∧
    (s.send p x).tracker = s.tracker ∧ (s.send p x).exposure = s.exposure ∧ (s.send p x).jobs = s.jobs ∧
    (s.send p x).engine = s.engine ∧ (s.send p x).memPort = s.memPort ∧ (s.send p x).records = s.records ∧
    (s.send p x).ports = s.ports ∧ (s.send p x).frameMem = s.frameMem ∧ (s.send p x).freeCount = s.freeCount := by
  simp [State.send]

@[simp] theorem Wire.set_set (w : Wire) (p : Port) (x y : Sent) : (w.set p x).set p y = w.set p y := by cases p <;> rfl

@[simp] theorem State.send_wire (s : State) (p : Port) (x : Sent) : (s.send p x).wire = s.wire.set p x := rfl

@[simp] theorem State.send_port (s : State) (p q : Port) (x : Sent) : (s.send p x).port q = s.port q := rfl

@[simp] theorem State.send_send (s : State) (p : Port) (x y : Sent) : (s.send p x).send p y = s.send p y := by
  simp [State.send]

/-- Sending and writing a port record touch different blocks. -/
theorem State.send_setPort (s : State) (p q : Port) (x : Sent) (r : PortRec) :
    (s.send p x).setPort q r = (s.setPort q r).send p x := rfl

/-! ### Transactions that are not taken -/

/-- R166: on a port that is not in RESET the transaction is discarded with PROTOCOL_ERROR, unless it is early. -/
theorem State.discard_raises {s : State} {p : Port} (hl : (s.port p).link ≠ .reset) :
    s.discard p false = s.raiseProtocolError p := by simp [State.discard, State.ignores, hl]

/-- R166: in RESET every transaction is ignored. -/
theorem State.discard_reset {s : State} {p : Port} {early : Bool} (hl : (s.port p).link = .reset) : s.discard p early = s := by
  simp [State.discard, State.ignores, hl]

/-- R176: an early transaction is ignored. -/
@[simp] theorem State.discard_early (s : State) (p : Port) : s.discard p true = s := by simp [State.discard, State.ignores]

/-- A transaction that is not taken changes port records alone. -/
@[simp] theorem State.discard_keeps (s : State) (p : Port) (early : Bool) :
    (s.discard p early).pending = s.pending ∧ (s.discard p early).timebase = s.timebase ∧
    (s.discard p early).power = s.power ∧ (s.discard p early).resetCtl = s.resetCtl ∧
    (s.discard p early).store = s.store ∧ (s.discard p early).edits = s.edits ∧
    (s.discard p early).tracker = s.tracker ∧ (s.discard p early).exposure = s.exposure ∧
    (s.discard p early).jobs = s.jobs ∧ (s.discard p early).engine = s.engine ∧
    (s.discard p early).memPort = s.memPort ∧ (s.discard p early).records = s.records ∧
    (s.discard p early).frameMem = s.frameMem ∧ (s.discard p early).wire = s.wire ∧
    (s.discard p early).freeCount = s.freeCount := by
  unfold State.discard
  split <;> simp [State.raiseProtocolError]

/-! ### Frames -/

/-- R166 to R168: a property of states that writing port records and the record of what was sent keep, and that the owner keeps,
holds after a frame. -/
theorem takeFrame_invariant {P : State → Prop} {p : Port} {early : Bool} {k t : Byte} {owner : State → Taken} {s : State}
    (hport : ∀ s p r, P s → P (s.setPort p r)) (hsend : ∀ s p x, P s → P (State.send s p x))
    (howner : ∀ s, P s → P (owner s).state) (hs : P s) : P (takeFrame p early k t owner s) := by
  unfold takeFrame
  apply hsend
  split
  · have h := howner _ (hport s p { s.port p with link := .inProgress, request := some (k, t) } hs)
    unfold Taken.finish
    simp only [State.startRequest]
    split
    · exact hport _ _ _ h
    · exact h
  · unfold State.discard
    split
    · exact hs
    · exact hport _ _ _ hs

/-- The same for a request with its checks: a refusal at the port changes nothing but the response. -/
theorem request_invariant {P : State → Prop} {k : ReqKind} {h : Hdr} {owner : State → Taken} {s t : State}
    (hport : ∀ s p r, P s → P (s.setPort p r)) (hsend : ∀ s p x, P s → P (State.send s p x))
    (howner : ∀ s, P s → P (owner s).state) (hs : P s) (ht : request k h owner s = .next t) : P t := by
  simp only [request, Host.Outcome.next.injEq] at ht
  subst ht
  refine takeFrame_invariant hport hsend (fun s hs => ?_) hs
  unfold checkedOwner
  split
  · split
    · exact hs
    · exact howner s hs
  · exact hs

end Sys2Proof.Machine
end

