-- ==== Sys2Proof/Laws/Frames.lean ====
section
/-! SUPPORT. What each shared operation leaves alone: for every operation, the blocks of the state it does not touch. -/

namespace Sys2Proof.Machine

/-- A fold of steps that each keep a value keeps it. -/
theorem foldl_keeps {α β : Type} (f : State → α → State) (g : State → β) (h : ∀ s a, g (f s a) = g s) (l : List α) (s : State) :
    g (l.foldl f s) = g s := by
  induction l generalizing s with
  | nil => rfl
  | cons a rest ih => simp only [List.foldl_cons]; rw [ih, h]

/-- LENS_CHANGED changes port records alone. -/
@[simp] theorem State.raiseLensChanged_keeps (s : State) :
    (s.raiseLensChanged).pending = s.pending ∧ (s.raiseLensChanged).timebase = s.timebase ∧
    (s.raiseLensChanged).power = s.power ∧ (s.raiseLensChanged).resetCtl = s.resetCtl ∧
    (s.raiseLensChanged).store = s.store ∧ (s.raiseLensChanged).edits = s.edits ∧ (s.raiseLensChanged).tracker = s.tracker ∧
    (s.raiseLensChanged).exposure = s.exposure ∧ (s.raiseLensChanged).jobs = s.jobs ∧
    (s.raiseLensChanged).engine = s.engine ∧ (s.raiseLensChanged).memPort = s.memPort ∧
    (s.raiseLensChanged).records = s.records ∧ (s.raiseLensChanged).frameMem = s.frameMem ∧
    (s.raiseLensChanged).wire = s.wire ∧ (s.raiseLensChanged).freeCount = s.freeCount := by
  simp [State.raiseLensChanged]

/-- PROFILE_CHANGED changes port records alone. -/
@[simp] theorem State.raiseProfileChanged_keeps (s : State) (i : Fin 32) :
    (s.raiseProfileChanged i).pending = s.pending ∧ (s.raiseProfileChanged i).timebase = s.timebase ∧
    (s.raiseProfileChanged i).power = s.power ∧ (s.raiseProfileChanged i).resetCtl = s.resetCtl ∧
    (s.raiseProfileChanged i).store = s.store ∧ (s.raiseProfileChanged i).edits = s.edits ∧
    (s.raiseProfileChanged i).tracker = s.tracker ∧ (s.raiseProfileChanged i).exposure = s.exposure ∧
    (s.raiseProfileChanged i).jobs = s.jobs ∧ (s.raiseProfileChanged i).engine = s.engine ∧
    (s.raiseProfileChanged i).memPort = s.memPort ∧ (s.raiseProfileChanged i).records = s.records ∧
    (s.raiseProfileChanged i).frameMem = s.frameMem ∧ (s.raiseProfileChanged i).wire = s.wire ∧
    (s.raiseProfileChanged i).freeCount = s.freeCount := by
  simp [State.raiseProfileChanged]

/-- PROTOCOL_ERROR changes port records alone. -/
@[simp] theorem State.raiseProtocolError_keeps (s : State) (p : Port) :
    (s.raiseProtocolError p).pending = s.pending ∧ (s.raiseProtocolError p).timebase = s.timebase ∧
    (s.raiseProtocolError p).power = s.power ∧ (s.raiseProtocolError p).resetCtl = s.resetCtl ∧
    (s.raiseProtocolError p).store = s.store ∧ (s.raiseProtocolError p).edits = s.edits ∧
    (s.raiseProtocolError p).tracker = s.tracker ∧ (s.raiseProtocolError p).exposure = s.exposure ∧
    (s.raiseProtocolError p).jobs = s.jobs ∧ (s.raiseProtocolError p).engine = s.engine ∧
    (s.raiseProtocolError p).memPort = s.memPort ∧ (s.raiseProtocolError p).records = s.records ∧
    (s.raiseProtocolError p).frameMem = s.frameMem ∧ (s.raiseProtocolError p).wire = s.wire ∧
    (s.raiseProtocolError p).freeCount = s.freeCount := by
  simp [State.raiseProtocolError]

/-! ### The store, the tracker, the edits -/

/-- A pin changes the store alone. -/
@[simp] theorem State.pin_keeps (s : State) (r : Option ProfileRef) :
    (s.pin r).pending = s.pending ∧ (s.pin r).timebase = s.timebase ∧ (s.pin r).power = s.power ∧
    (s.pin r).resetCtl = s.resetCtl ∧ (s.pin r).edits = s.edits ∧ (s.pin r).tracker = s.tracker ∧
    (s.pin r).exposure = s.exposure ∧ (s.pin r).jobs = s.jobs ∧ (s.pin r).engine = s.engine ∧
    (s.pin r).memPort = s.memPort ∧ (s.pin r).records = s.records ∧ (s.pin r).ports = s.ports ∧
    (s.pin r).frameMem = s.frameMem ∧ (s.pin r).wire = s.wire ∧ (s.pin r).freeCount = s.freeCount := by
  cases r <;> simp [State.pin]

/-- The release of a pin changes the store alone. -/
@[simp] theorem State.unpin_keeps (s : State) (r : Option ProfileRef) :
    (s.unpin r).pending = s.pending ∧ (s.unpin r).timebase = s.timebase ∧ (s.unpin r).power = s.power ∧
    (s.unpin r).resetCtl = s.resetCtl ∧ (s.unpin r).edits = s.edits ∧ (s.unpin r).tracker = s.tracker ∧
    (s.unpin r).exposure = s.exposure ∧ (s.unpin r).jobs = s.jobs ∧ (s.unpin r).engine = s.engine ∧
    (s.unpin r).memPort = s.memPort ∧ (s.unpin r).records = s.records ∧ (s.unpin r).ports = s.ports ∧
    (s.unpin r).frameMem = s.frameMem ∧ (s.unpin r).wire = s.wire ∧ (s.unpin r).freeCount = s.freeCount := by
  cases r <;> simp [State.unpin]

/-- Binding changes the tracker alone. -/
@[simp] theorem State.rebind_keeps (s : State) :
    (s.rebind).pending = s.pending ∧ (s.rebind).timebase = s.timebase ∧ (s.rebind).power = s.power ∧
    (s.rebind).resetCtl = s.resetCtl ∧ (s.rebind).store = s.store ∧ (s.rebind).edits = s.edits ∧
    (s.rebind).exposure = s.exposure ∧ (s.rebind).jobs = s.jobs ∧ (s.rebind).engine = s.engine ∧
    (s.rebind).memPort = s.memPort ∧ (s.rebind).records = s.records ∧ (s.rebind).ports = s.ports ∧
    (s.rebind).frameMem = s.frameMem ∧ (s.rebind).wire = s.wire ∧ (s.rebind).freeCount = s.freeCount := by
  unfold State.rebind
  repeat' split
  all_goals simp

/-- The hand-offs change the tracker and port records alone. -/
@[simp] theorem State.handOff_keeps (s : State) (i : Fin 32) :
    (s.handOff i).pending = s.pending ∧ (s.handOff i).timebase = s.timebase ∧ (s.handOff i).power = s.power ∧
    (s.handOff i).resetCtl = s.resetCtl ∧ (s.handOff i).store = s.store ∧ (s.handOff i).edits = s.edits ∧
    (s.handOff i).exposure = s.exposure ∧ (s.handOff i).jobs = s.jobs ∧ (s.handOff i).engine = s.engine ∧
    (s.handOff i).memPort = s.memPort ∧ (s.handOff i).records = s.records ∧ (s.handOff i).frameMem = s.frameMem ∧
    (s.handOff i).wire = s.wire ∧ (s.handOff i).freeCount = s.freeCount := by
  unfold State.handOff
  dsimp only
  repeat' split
  all_goals simp

/-- Writing an edit record changes the edit records alone. -/
@[simp] theorem State.setEdit_keeps (s : State) (p : Port) (e : Option Edit) :
    (s.setEdit p e).pending = s.pending ∧ (s.setEdit p e).timebase = s.timebase ∧ (s.setEdit p e).power = s.power ∧
    (s.setEdit p e).resetCtl = s.resetCtl ∧ (s.setEdit p e).store = s.store ∧ (s.setEdit p e).tracker = s.tracker ∧
    (s.setEdit p e).exposure = s.exposure ∧ (s.setEdit p e).jobs = s.jobs ∧ (s.setEdit p e).engine = s.engine ∧
    (s.setEdit p e).memPort = s.memPort ∧ (s.setEdit p e).records = s.records ∧ (s.setEdit p e).ports = s.ports ∧
    (s.setEdit p e).frameMem = s.frameMem ∧ (s.setEdit p e).wire = s.wire ∧ (s.setEdit p e).freeCount = s.freeCount := by
  cases p <;> simp [State.setEdit]

/-- An abort changes the store and the edit records alone. -/
@[simp] theorem State.abortEdit_keeps (s : State) (p : Port) :
    (s.abortEdit p).pending = s.pending ∧ (s.abortEdit p).timebase = s.timebase ∧ (s.abortEdit p).power = s.power ∧
    (s.abortEdit p).resetCtl = s.resetCtl ∧ (s.abortEdit p).tracker = s.tracker ∧ (s.abortEdit p).exposure = s.exposure ∧
    (s.abortEdit p).jobs = s.jobs ∧ (s.abortEdit p).engine = s.engine ∧ (s.abortEdit p).memPort = s.memPort ∧
    (s.abortEdit p).records = s.records ∧ (s.abortEdit p).ports = s.ports ∧ (s.abortEdit p).frameMem = s.frameMem ∧
    (s.abortEdit p).wire = s.wire ∧ (s.abortEdit p).freeCount = s.freeCount := by
  unfold State.abortEdit
  repeat' split
  all_goals simp

/-! ### Jobs -/

/-- Writing the table changes the Job Manager alone. -/
@[simp] theorem State.withTable_keeps (s : State) (l : List Job) :
    (s.withTable l).pending = s.pending ∧ (s.withTable l).timebase = s.timebase ∧ (s.withTable l).power = s.power ∧
    (s.withTable l).resetCtl = s.resetCtl ∧ (s.withTable l).store = s.store ∧ (s.withTable l).edits = s.edits ∧
    (s.withTable l).tracker = s.tracker ∧ (s.withTable l).exposure = s.exposure ∧ (s.withTable l).engine = s.engine ∧
    (s.withTable l).memPort = s.memPort ∧ (s.withTable l).records = s.records ∧ (s.withTable l).ports = s.ports ∧
    (s.withTable l).frameMem = s.frameMem ∧ (s.withTable l).wire = s.wire ∧ (s.withTable l).freeCount = s.freeCount := by
  simp [State.withTable]

/-- Changing an entry changes the Job Manager alone. -/
@[simp] theorem State.updateJob_keeps (s : State) (n : Nat) (f : Job → Job) :
    (s.updateJob n f).pending = s.pending ∧ (s.updateJob n f).timebase = s.timebase ∧ (s.updateJob n f).power = s.power ∧
    (s.updateJob n f).resetCtl = s.resetCtl ∧ (s.updateJob n f).store = s.store ∧ (s.updateJob n f).edits = s.edits ∧
    (s.updateJob n f).tracker = s.tracker ∧ (s.updateJob n f).exposure = s.exposure ∧ (s.updateJob n f).engine = s.engine ∧
    (s.updateJob n f).memPort = s.memPort ∧ (s.updateJob n f).records = s.records ∧ (s.updateJob n f).ports = s.ports ∧
    (s.updateJob n f).frameMem = s.frameMem ∧ (s.updateJob n f).wire = s.wire ∧
    (s.updateJob n f).freeCount = s.freeCount := by
  simp [State.updateJob]

/-- Freeing an entry changes the Job Manager alone. -/
@[simp] theorem State.freeEntry_keeps (s : State) (n : Nat) :
    (s.freeEntry n).pending = s.pending ∧ (s.freeEntry n).timebase = s.timebase ∧ (s.freeEntry n).power = s.power ∧
    (s.freeEntry n).resetCtl = s.resetCtl ∧ (s.freeEntry n).store = s.store ∧ (s.freeEntry n).edits = s.edits ∧
    (s.freeEntry n).tracker = s.tracker ∧ (s.freeEntry n).exposure = s.exposure ∧ (s.freeEntry n).engine = s.engine ∧
    (s.freeEntry n).memPort = s.memPort ∧ (s.freeEntry n).records = s.records ∧ (s.freeEntry n).ports = s.ports ∧
    (s.freeEntry n).frameMem = s.frameMem ∧ (s.freeEntry n).wire = s.wire ∧ (s.freeEntry n).freeCount = s.freeCount := by
  simp [State.freeEntry]

/-- Writing a stream changes the Job Manager alone. -/
@[simp] theorem State.setStream_keeps (s : State) (i : StreamId) (x : Stream) :
    (s.setStream i x).pending = s.pending ∧ (s.setStream i x).timebase = s.timebase ∧ (s.setStream i x).power = s.power ∧
    (s.setStream i x).resetCtl = s.resetCtl ∧ (s.setStream i x).store = s.store ∧ (s.setStream i x).edits = s.edits ∧
    (s.setStream i x).tracker = s.tracker ∧ (s.setStream i x).exposure = s.exposure ∧ (s.setStream i x).engine = s.engine ∧
    (s.setStream i x).memPort = s.memPort ∧ (s.setStream i x).records = s.records ∧ (s.setStream i x).ports = s.ports ∧
    (s.setStream i x).frameMem = s.frameMem ∧ (s.setStream i x).wire = s.wire ∧
    (s.setStream i x).freeCount = s.freeCount := by
  cases i <;> simp [State.setStream]

/-- A stream's move changes the Job Manager alone. -/
@[simp] theorem State.streamTo_keeps (s : State) (i : StreamId) (x : StreamState) :
    (s.streamTo i x).pending = s.pending ∧ (s.streamTo i x).timebase = s.timebase ∧ (s.streamTo i x).power = s.power ∧
    (s.streamTo i x).resetCtl = s.resetCtl ∧ (s.streamTo i x).store = s.store ∧ (s.streamTo i x).edits = s.edits ∧
    (s.streamTo i x).tracker = s.tracker ∧ (s.streamTo i x).exposure = s.exposure ∧ (s.streamTo i x).engine = s.engine ∧
    (s.streamTo i x).memPort = s.memPort ∧ (s.streamTo i x).records = s.records ∧ (s.streamTo i x).ports = s.ports ∧
    (s.streamTo i x).frameMem = s.frameMem ∧ (s.streamTo i x).wire = s.wire ∧ (s.streamTo i x).freeCount = s.freeCount := by
  simp [State.streamTo]

/-- A drain's end changes the Job Manager alone. -/
@[simp] theorem State.drainHalt_keeps (s : State) (i : StreamId) :
    (s.drainHalt i).pending = s.pending ∧ (s.drainHalt i).timebase = s.timebase ∧ (s.drainHalt i).power = s.power ∧
    (s.drainHalt i).resetCtl = s.resetCtl ∧ (s.drainHalt i).store = s.store ∧ (s.drainHalt i).edits = s.edits ∧
    (s.drainHalt i).tracker = s.tracker ∧ (s.drainHalt i).exposure = s.exposure ∧ (s.drainHalt i).engine = s.engine ∧
    (s.drainHalt i).memPort = s.memPort ∧ (s.drainHalt i).records = s.records ∧ (s.drainHalt i).ports = s.ports ∧
    (s.drainHalt i).frameMem = s.frameMem ∧ (s.drainHalt i).wire = s.wire ∧ (s.drainHalt i).freeCount = s.freeCount := by
  unfold State.drainHalt
  repeat' split
  all_goals simp

/-- A frame record changes the list and port records alone. -/
@[simp] theorem State.addRecord_keeps (s : State) (r : FrameRecord) :
    (s.addRecord r).pending = s.pending ∧ (s.addRecord r).timebase = s.timebase ∧ (s.addRecord r).power = s.power ∧
    (s.addRecord r).resetCtl = s.resetCtl ∧ (s.addRecord r).store = s.store ∧ (s.addRecord r).edits = s.edits ∧
    (s.addRecord r).tracker = s.tracker ∧ (s.addRecord r).exposure = s.exposure ∧ (s.addRecord r).jobs = s.jobs ∧
    (s.addRecord r).engine = s.engine ∧ (s.addRecord r).memPort = s.memPort ∧ (s.addRecord r).frameMem = s.frameMem ∧
    (s.addRecord r).wire = s.wire ∧ (s.addRecord r).freeCount = s.freeCount := by
  simp [State.addRecord]

/-- Emptying a context changes the engine and the Frame Memory Port alone. -/
@[simp] theorem State.releaseContext_keeps (s : State) (n : Nat) :
    (s.releaseContext n).pending = s.pending ∧ (s.releaseContext n).timebase = s.timebase ∧
    (s.releaseContext n).power = s.power ∧ (s.releaseContext n).resetCtl = s.resetCtl ∧
    (s.releaseContext n).store = s.store ∧ (s.releaseContext n).edits = s.edits ∧ (s.releaseContext n).tracker = s.tracker ∧
    (s.releaseContext n).exposure = s.exposure ∧ (s.releaseContext n).jobs = s.jobs ∧
    (s.releaseContext n).records = s.records ∧ (s.releaseContext n).ports = s.ports ∧
    (s.releaseContext n).frameMem = s.frameMem ∧ (s.releaseContext n).wire = s.wire ∧
    (s.releaseContext n).freeCount = s.freeCount := by
  unfold State.releaseContext
  dsimp only
  repeat' split
  all_goals simp

/-- Announcing an end changes the Job Manager and port records alone. -/
@[simp] theorem State.announceEnd_keeps (s : State) (j : Job) (r : JobResult) :
    (s.announceEnd j r).pending = s.pending ∧ (s.announceEnd j r).timebase = s.timebase ∧
    (s.announceEnd j r).power = s.power ∧ (s.announceEnd j r).resetCtl = s.resetCtl ∧ (s.announceEnd j r).store = s.store ∧
    (s.announceEnd j r).edits = s.edits ∧ (s.announceEnd j r).tracker = s.tracker ∧
    (s.announceEnd j r).exposure = s.exposure ∧ (s.announceEnd j r).engine = s.engine ∧
    (s.announceEnd j r).memPort = s.memPort ∧ (s.announceEnd j r).records = s.records ∧
    (s.announceEnd j r).frameMem = s.frameMem ∧ (s.announceEnd j r).wire = s.wire ∧
    (s.announceEnd j r).freeCount = s.freeCount := by
  unfold State.announceEnd
  repeat' split
  all_goals simp

/-- Closing an entry leaves the rest alone. -/
@[simp] theorem State.closeEntry_keeps (s : State) (j : Job) (r : JobResult) :
    (s.closeEntry j r).pending = s.pending ∧ (s.closeEntry j r).timebase = s.timebase ∧ (s.closeEntry j r).power = s.power ∧
    (s.closeEntry j r).resetCtl = s.resetCtl ∧ (s.closeEntry j r).edits = s.edits ∧ (s.closeEntry j r).tracker = s.tracker ∧
    (s.closeEntry j r).exposure = s.exposure ∧ (s.closeEntry j r).engine = s.engine ∧
    (s.closeEntry j r).memPort = s.memPort ∧ (s.closeEntry j r).frameMem = s.frameMem ∧ (s.closeEntry j r).wire = s.wire ∧
    (s.closeEntry j r).freeCount = s.freeCount := by
  unfold State.closeEntry
  dsimp only
  repeat' split
  all_goals simp

/-- R116: the end of a job leaves every other block alone. -/
@[simp] theorem State.endJob_keeps (s : State) (n : Nat) (r : JobResult) :
    (s.endJob n r).pending = s.pending ∧ (s.endJob n r).timebase = s.timebase ∧ (s.endJob n r).power = s.power ∧
    (s.endJob n r).resetCtl = s.resetCtl ∧ (s.endJob n r).edits = s.edits ∧ (s.endJob n r).tracker = s.tracker ∧
    (s.endJob n r).exposure = s.exposure ∧ (s.endJob n r).frameMem = s.frameMem ∧ (s.endJob n r).wire = s.wire ∧
    (s.endJob n r).freeCount = s.freeCount := by
  unfold State.endJob; split
  · simp
  · dsimp only; split <;> simp

/-- R116 step 3: a job that does not end DONE or UNCORRECTED writes no frame record. -/
@[simp] theorem State.endJob_records (s : State) (n : Nat) (r : JobResult) (h1 : r ≠ .done) (h2 : r ≠ .uncorrected) :
    (s.endJob n r).records = s.records := by
  have h : ∀ j : Job, writesRecord j r = false := by intro j; simp [writesRecord, h1, h2]
  unfold State.endJob
  split
  · rfl
  · dsimp only
    split <;> simp [State.closeEntry, h]

/-- A new entry changes the Job Manager alone. -/
@[simp] theorem State.addEntry_keeps (s : State) (j : Job) :
    (s.addEntry j).pending = s.pending ∧ (s.addEntry j).timebase = s.timebase ∧ (s.addEntry j).power = s.power ∧
    (s.addEntry j).resetCtl = s.resetCtl ∧ (s.addEntry j).store = s.store ∧ (s.addEntry j).edits = s.edits ∧
    (s.addEntry j).tracker = s.tracker ∧ (s.addEntry j).exposure = s.exposure ∧ (s.addEntry j).engine = s.engine ∧
    (s.addEntry j).memPort = s.memPort ∧ (s.addEntry j).records = s.records ∧ (s.addEntry j).ports = s.ports ∧
    (s.addEntry j).frameMem = s.frameMem ∧ (s.addEntry j).wire = s.wire ∧ (s.addEntry j).freeCount = s.freeCount := by
  simp [State.addEntry]

/-- Asking for a wake changes Power Control alone. -/
@[simp] theorem State.askWake_keeps (s : State) :
    (s.askWake).pending = s.pending ∧ (s.askWake).timebase = s.timebase ∧ (s.askWake).resetCtl = s.resetCtl ∧
    (s.askWake).store = s.store ∧ (s.askWake).edits = s.edits ∧ (s.askWake).tracker = s.tracker ∧
    (s.askWake).exposure = s.exposure ∧ (s.askWake).jobs = s.jobs ∧ (s.askWake).engine = s.engine ∧
    (s.askWake).memPort = s.memPort ∧ (s.askWake).records = s.records ∧ (s.askWake).ports = s.ports ∧
    (s.askWake).frameMem = s.frameMem ∧ (s.askWake).wire = s.wire ∧ (s.askWake).freeCount = s.freeCount := by
  unfold State.askWake
  repeat' split
  all_goals simp

/-! ### The engine -/

/-- Taking a job into the current context changes the Job Manager and the engine alone. -/
@[simp] theorem State.runJob_keeps (s : State) (n : Nat) (w : WorkingSet) (b : Bool) :
    (s.runJob n w b).pending = s.pending ∧ (s.runJob n w b).timebase = s.timebase ∧ (s.runJob n w b).power = s.power ∧
    (s.runJob n w b).resetCtl = s.resetCtl ∧ (s.runJob n w b).store = s.store ∧ (s.runJob n w b).edits = s.edits ∧
    (s.runJob n w b).tracker = s.tracker ∧ (s.runJob n w b).exposure = s.exposure ∧ (s.runJob n w b).memPort = s.memPort ∧
    (s.runJob n w b).records = s.records ∧ (s.runJob n w b).ports = s.ports ∧ (s.runJob n w b).frameMem = s.frameMem ∧
    (s.runJob n w b).wire = s.wire ∧ (s.runJob n w b).freeCount = s.freeCount := by
  simp [State.runJob]

/-- A start with a profile changes the Job Manager and the engine alone. -/
@[simp] theorem State.startWith_keeps (s : State) (j : Job) (v : Version) (l : LensState) :
    (s.startWith j v l).pending = s.pending ∧ (s.startWith j v l).timebase = s.timebase ∧
    (s.startWith j v l).power = s.power ∧ (s.startWith j v l).resetCtl = s.resetCtl ∧ (s.startWith j v l).store = s.store ∧
    (s.startWith j v l).edits = s.edits ∧ (s.startWith j v l).tracker = s.tracker ∧
    (s.startWith j v l).exposure = s.exposure ∧ (s.startWith j v l).memPort = s.memPort ∧
    (s.startWith j v l).records = s.records ∧ (s.startWith j v l).ports = s.ports ∧
    (s.startWith j v l).frameMem = s.frameMem ∧ (s.startWith j v l).wire = s.wire ∧
    (s.startWith j v l).freeCount = s.freeCount := by
  simp [State.startWith]

/-- A start without a profile leaves what the end of a job leaves. -/
@[simp] theorem State.startWithout_keeps (s : State) (j : Job) :
    (s.startWithout j).records = s.records ∧ (s.startWithout j).pending = s.pending ∧ (s.startWithout j).timebase = s.timebase ∧ (s.startWithout j).power = s.power ∧
    (s.startWithout j).resetCtl = s.resetCtl ∧ (s.startWithout j).edits = s.edits ∧ (s.startWithout j).tracker = s.tracker ∧
    (s.startWithout j).exposure = s.exposure ∧ (s.startWithout j).frameMem = s.frameMem ∧ (s.startWithout j).wire = s.wire ∧
    (s.startWithout j).freeCount = s.freeCount := by
  unfold State.startWithout
  repeat' split
  all_goals simp

/-- A start leaves what the end of a job leaves. -/
@[simp] theorem State.startJob_keeps (s : State) (j : Job) :
    (s.startJob j).records = s.records ∧ (s.startJob j).pending = s.pending ∧ (s.startJob j).timebase = s.timebase ∧ (s.startJob j).power = s.power ∧
    (s.startJob j).resetCtl = s.resetCtl ∧ (s.startJob j).edits = s.edits ∧ (s.startJob j).tracker = s.tracker ∧
    (s.startJob j).exposure = s.exposure ∧ (s.startJob j).frameMem = s.frameMem ∧ (s.startJob j).wire = s.wire ∧
    (s.startJob j).freeCount = s.freeCount := by
  unfold State.startJob
  repeat' split
  all_goals simp

/-- Starting the pause timer changes the Frame Memory Port alone. -/
@[simp] theorem State.startPause_keeps (s : State) (n : Nat) :
    (s.startPause n).pending = s.pending ∧ (s.startPause n).timebase = s.timebase ∧ (s.startPause n).power = s.power ∧
    (s.startPause n).resetCtl = s.resetCtl ∧ (s.startPause n).store = s.store ∧ (s.startPause n).edits = s.edits ∧
    (s.startPause n).tracker = s.tracker ∧ (s.startPause n).exposure = s.exposure ∧ (s.startPause n).jobs = s.jobs ∧
    (s.startPause n).engine = s.engine ∧ (s.startPause n).records = s.records ∧ (s.startPause n).ports = s.ports ∧
    (s.startPause n).frameMem = s.frameMem ∧ (s.startPause n).wire = s.wire ∧ (s.startPause n).freeCount = s.freeCount := by
  simp [State.startPause]

/-- Pausing leaves the rest alone. -/
@[simp] theorem State.pause_keeps (s : State) (c : Context) :
    (s.pause c).pending = s.pending ∧ (s.pause c).timebase = s.timebase ∧ (s.pause c).power = s.power ∧
    (s.pause c).resetCtl = s.resetCtl ∧ (s.pause c).store = s.store ∧ (s.pause c).edits = s.edits ∧
    (s.pause c).tracker = s.tracker ∧ (s.pause c).exposure = s.exposure ∧ (s.pause c).records = s.records ∧
    (s.pause c).ports = s.ports ∧ (s.pause c).frameMem = s.frameMem ∧ (s.pause c).wire = s.wire ∧
    (s.pause c).freeCount = s.freeCount := by
  simp [State.pause]

/-- Resuming changes the Job Manager and the engine alone. -/
@[simp] theorem State.resume_keeps (s : State) (c : Context) :
    (s.resume c).pending = s.pending ∧ (s.resume c).timebase = s.timebase ∧ (s.resume c).power = s.power ∧
    (s.resume c).resetCtl = s.resetCtl ∧ (s.resume c).store = s.store ∧ (s.resume c).edits = s.edits ∧
    (s.resume c).tracker = s.tracker ∧ (s.resume c).exposure = s.exposure ∧ (s.resume c).memPort = s.memPort ∧
    (s.resume c).records = s.records ∧ (s.resume c).ports = s.ports ∧ (s.resume c).frameMem = s.frameMem ∧
    (s.resume c).wire = s.wire ∧ (s.resume c).freeCount = s.freeCount := by
  simp [State.resume]

/-- Restoring leaves the rest alone. -/
@[simp] theorem State.restore_keeps (s : State) (c : Context) :
    (s.restore c).pending = s.pending ∧ (s.restore c).timebase = s.timebase ∧ (s.restore c).power = s.power ∧
    (s.restore c).resetCtl = s.resetCtl ∧ (s.restore c).store = s.store ∧ (s.restore c).edits = s.edits ∧
    (s.restore c).tracker = s.tracker ∧ (s.restore c).exposure = s.exposure ∧ (s.restore c).records = s.records ∧
    (s.restore c).ports = s.ports ∧ (s.restore c).frameMem = s.frameMem ∧ (s.restore c).wire = s.wire ∧
    (s.restore c).freeCount = s.freeCount := by
  unfold State.restore
  dsimp only
  repeat' split
  all_goals simp

/-- Suspending changes the Job Manager and the engine alone. -/
@[simp] theorem State.suspend_keeps (s : State) (c : Context) :
    (s.suspend c).pending = s.pending ∧ (s.suspend c).timebase = s.timebase ∧ (s.suspend c).power = s.power ∧
    (s.suspend c).resetCtl = s.resetCtl ∧ (s.suspend c).store = s.store ∧ (s.suspend c).edits = s.edits ∧
    (s.suspend c).tracker = s.tracker ∧ (s.suspend c).exposure = s.exposure ∧ (s.suspend c).memPort = s.memPort ∧
    (s.suspend c).records = s.records ∧ (s.suspend c).ports = s.ports ∧ (s.suspend c).frameMem = s.frameMem ∧
    (s.suspend c).wire = s.wire ∧ (s.suspend c).freeCount = s.freeCount := by
  simp [State.suspend]

/-- R123, R132: the choices of the engine leave what the end of a job leaves. -/
@[simp] theorem State.refill_keeps (fuel : Nat) (s : State) :
    (State.refill fuel s).records = s.records ∧ (State.refill fuel s).pending = s.pending ∧ (State.refill fuel s).timebase = s.timebase ∧
    (State.refill fuel s).power = s.power ∧ (State.refill fuel s).resetCtl = s.resetCtl ∧
    (State.refill fuel s).edits = s.edits ∧ (State.refill fuel s).tracker = s.tracker ∧
    (State.refill fuel s).exposure = s.exposure ∧ (State.refill fuel s).frameMem = s.frameMem ∧
    (State.refill fuel s).wire = s.wire ∧ (State.refill fuel s).freeCount = s.freeCount := by
  induction fuel generalizing s with
  | zero => simp [State.refill]
  | succ n ih =>
    unfold State.refill
    repeat' split
    all_goals simp [ih]

/-- The engine's turn leaves what the end of a job leaves. -/
@[simp] theorem State.engineTurn_keeps (s : State) :
    (s.engineTurn).records = s.records ∧ (s.engineTurn).pending = s.pending ∧ (s.engineTurn).timebase = s.timebase ∧ (s.engineTurn).power = s.power ∧
    (s.engineTurn).resetCtl = s.resetCtl ∧ (s.engineTurn).edits = s.edits ∧ (s.engineTurn).tracker = s.tracker ∧
    (s.engineTurn).exposure = s.exposure ∧ (s.engineTurn).frameMem = s.frameMem ∧ (s.engineTurn).wire = s.wire ∧
    (s.engineTurn).freeCount = s.freeCount := by
  simp [State.engineTurn]

/-- A cancellation leaves what the end of a job leaves. -/
@[simp] theorem State.cancel_keeps (s : State) (j : Job) :
    (s.cancel j).records = s.records ∧ (s.cancel j).pending = s.pending ∧ (s.cancel j).timebase = s.timebase ∧ (s.cancel j).power = s.power ∧
    (s.cancel j).resetCtl = s.resetCtl ∧ (s.cancel j).edits = s.edits ∧ (s.cancel j).tracker = s.tracker ∧
    (s.cancel j).exposure = s.exposure ∧ (s.cancel j).frameMem = s.frameMem ∧ (s.cancel j).wire = s.wire ∧
    (s.cancel j).freeCount = s.freeCount := by
  unfold State.cancel
  repeat' split
  all_goals simp

/-! ### Exposures -/

/-- Writing the log changes the Exposure Unit alone. -/
@[simp] theorem State.withLog_keeps (s : State) (l : List ExposureRec) :
    (s.withLog l).pending = s.pending ∧ (s.withLog l).timebase = s.timebase ∧ (s.withLog l).power = s.power ∧
    (s.withLog l).resetCtl = s.resetCtl ∧ (s.withLog l).store = s.store ∧ (s.withLog l).edits = s.edits ∧
    (s.withLog l).tracker = s.tracker ∧ (s.withLog l).jobs = s.jobs ∧ (s.withLog l).engine = s.engine ∧
    (s.withLog l).memPort = s.memPort ∧ (s.withLog l).records = s.records ∧ (s.withLog l).ports = s.ports ∧
    (s.withLog l).frameMem = s.frameMem ∧ (s.withLog l).wire = s.wire ∧ (s.withLog l).freeCount = s.freeCount := by
  simp [State.withLog]

/-- Changing a record changes the Exposure Unit alone. -/
@[simp] theorem State.updateExposure_keeps (s : State) (q : Nat) (f : ExposureRec → ExposureRec) :
    (s.updateExposure q f).pending = s.pending ∧ (s.updateExposure q f).timebase = s.timebase ∧
    (s.updateExposure q f).power = s.power ∧ (s.updateExposure q f).resetCtl = s.resetCtl ∧
    (s.updateExposure q f).store = s.store ∧ (s.updateExposure q f).edits = s.edits ∧
    (s.updateExposure q f).tracker = s.tracker ∧ (s.updateExposure q f).jobs = s.jobs ∧
    (s.updateExposure q f).engine = s.engine ∧ (s.updateExposure q f).memPort = s.memPort ∧
    (s.updateExposure q f).records = s.records ∧ (s.updateExposure q f).ports = s.ports ∧
    (s.updateExposure q f).frameMem = s.frameMem ∧ (s.updateExposure q f).wire = s.wire ∧
    (s.updateExposure q f).freeCount = s.freeCount := by
  simp [State.updateExposure]

/-- Handing a result to a job changes the Job Manager and the store alone. -/
@[simp] theorem State.handTo_keeps (e : ExposureRec) (r : Resolution) (s : State) (n : Nat) :
    (State.handTo e r s n).pending = s.pending ∧ (State.handTo e r s n).timebase = s.timebase ∧
    (State.handTo e r s n).power = s.power ∧ (State.handTo e r s n).resetCtl = s.resetCtl ∧
    (State.handTo e r s n).edits = s.edits ∧ (State.handTo e r s n).tracker = s.tracker ∧
    (State.handTo e r s n).exposure = s.exposure ∧ (State.handTo e r s n).engine = s.engine ∧
    (State.handTo e r s n).memPort = s.memPort ∧ (State.handTo e r s n).records = s.records ∧
    (State.handTo e r s n).ports = s.ports ∧ (State.handTo e r s n).frameMem = s.frameMem ∧
    (State.handTo e r s n).wire = s.wire ∧ (State.handTo e r s n).freeCount = s.freeCount := by
  simp [State.handTo]

/-- R77 changes the Job Manager and the store alone. -/
@[simp] theorem State.handOver_keeps (s : State) (e : ExposureRec) (r : Resolution) :
    (s.handOver e r).pending = s.pending ∧ (s.handOver e r).timebase = s.timebase ∧ (s.handOver e r).power = s.power ∧
    (s.handOver e r).resetCtl = s.resetCtl ∧ (s.handOver e r).edits = s.edits ∧ (s.handOver e r).tracker = s.tracker ∧
    (s.handOver e r).exposure = s.exposure ∧ (s.handOver e r).engine = s.engine ∧ (s.handOver e r).memPort = s.memPort ∧
    (s.handOver e r).records = s.records ∧ (s.handOver e r).ports = s.ports ∧ (s.handOver e r).frameMem = s.frameMem ∧
    (s.handOver e r).wire = s.wire ∧ (s.handOver e r).freeCount = s.freeCount := by
  unfold State.handOver
  refine ⟨?_, ?_, ?_, ?_, ?_, ?_, ?_, ?_, ?_, ?_, ?_, ?_, ?_, ?_⟩ <;>
    exact foldl_keeps _ _ (by simp) _ _

/-- A resolution changes the Exposure Unit, the Job Manager and the store alone. -/
@[simp] theorem State.resolve_keeps (s : State) (e : ExposureRec) (a m : Stamp) (v : Verdict) :
    (s.resolve e a m v).pending = s.pending ∧ (s.resolve e a m v).timebase = s.timebase ∧
    (s.resolve e a m v).power = s.power ∧ (s.resolve e a m v).resetCtl = s.resetCtl ∧ (s.resolve e a m v).edits = s.edits ∧
    (s.resolve e a m v).tracker = s.tracker ∧ (s.resolve e a m v).engine = s.engine ∧
    (s.resolve e a m v).memPort = s.memPort ∧ (s.resolve e a m v).records = s.records ∧
    (s.resolve e a m v).ports = s.ports ∧ (s.resolve e a m v).frameMem = s.frameMem ∧ (s.resolve e a m v).wire = s.wire ∧
    (s.resolve e a m v).freeCount = s.freeCount := by
  simp [State.resolve]

/-- An attempt changes what a resolution changes. -/
@[simp] theorem State.retry_keeps (s : State) (e : ExposureRec) :
    (s.retry e).pending = s.pending ∧ (s.retry e).timebase = s.timebase ∧ (s.retry e).power = s.power ∧
    (s.retry e).resetCtl = s.resetCtl ∧ (s.retry e).edits = s.edits ∧ (s.retry e).tracker = s.tracker ∧
    (s.retry e).engine = s.engine ∧ (s.retry e).memPort = s.memPort ∧ (s.retry e).records = s.records ∧
    (s.retry e).ports = s.ports ∧ (s.retry e).frameMem = s.frameMem ∧ (s.retry e).wire = s.wire ∧
    (s.retry e).freeCount = s.freeCount := by
  unfold State.retry; repeat' split
  all_goals simp

/-- R73 changes what a resolution changes. -/
@[simp] theorem State.retryAll_keeps (s : State) :
    (s.retryAll).pending = s.pending ∧ (s.retryAll).timebase = s.timebase ∧ (s.retryAll).power = s.power ∧
    (s.retryAll).resetCtl = s.resetCtl ∧ (s.retryAll).edits = s.edits ∧ (s.retryAll).tracker = s.tracker ∧
    (s.retryAll).engine = s.engine ∧ (s.retryAll).memPort = s.memPort ∧ (s.retryAll).records = s.records ∧
    (s.retryAll).ports = s.ports ∧ (s.retryAll).frameMem = s.frameMem ∧ (s.retryAll).wire = s.wire ∧
    (s.retryAll).freeCount = s.freeCount := by
  unfold State.retryAll
  refine ⟨?_, ?_, ?_, ?_, ?_, ?_, ?_, ?_, ?_, ?_, ?_, ?_, ?_⟩ <;>
    exact foldl_keeps _ _ (by simp) _ _

/-- R75 changes what a resolution changes. -/
@[simp] theorem State.detachRecord_keeps (s : State) (e : ExposureRec) :
    (s.detachRecord e).pending = s.pending ∧ (s.detachRecord e).timebase = s.timebase ∧ (s.detachRecord e).power = s.power ∧
    (s.detachRecord e).resetCtl = s.resetCtl ∧ (s.detachRecord e).edits = s.edits ∧ (s.detachRecord e).tracker = s.tracker ∧
    (s.detachRecord e).engine = s.engine ∧ (s.detachRecord e).memPort = s.memPort ∧ (s.detachRecord e).records = s.records ∧
    (s.detachRecord e).ports = s.ports ∧ (s.detachRecord e).frameMem = s.frameMem ∧ (s.detachRecord e).wire = s.wire ∧
    (s.detachRecord e).freeCount = s.freeCount := by
  unfold State.detachRecord
  repeat' split
  all_goals simp

/-- R75 changes what a resolution changes. -/
@[simp] theorem State.detachAll_keeps (s : State) :
    (s.detachAll).pending = s.pending ∧ (s.detachAll).timebase = s.timebase ∧ (s.detachAll).power = s.power ∧
    (s.detachAll).resetCtl = s.resetCtl ∧ (s.detachAll).edits = s.edits ∧ (s.detachAll).tracker = s.tracker ∧
    (s.detachAll).engine = s.engine ∧ (s.detachAll).memPort = s.memPort ∧ (s.detachAll).records = s.records ∧
    (s.detachAll).ports = s.ports ∧ (s.detachAll).frameMem = s.frameMem ∧ (s.detachAll).wire = s.wire ∧
    (s.detachAll).freeCount = s.freeCount := by
  unfold State.detachAll
  refine ⟨?_, ?_, ?_, ?_, ?_, ?_, ?_, ?_, ?_, ?_, ?_, ?_, ?_⟩ <;>
    exact foldl_keeps _ _ (by simp) _ _

/-- Abandoning changes the Exposure Unit alone. -/
@[simp] theorem State.abandonOpen_keeps (s : State) :
    (s.abandonOpen).pending = s.pending ∧ (s.abandonOpen).timebase = s.timebase ∧ (s.abandonOpen).power = s.power ∧
    (s.abandonOpen).resetCtl = s.resetCtl ∧ (s.abandonOpen).store = s.store ∧ (s.abandonOpen).edits = s.edits ∧
    (s.abandonOpen).tracker = s.tracker ∧ (s.abandonOpen).jobs = s.jobs ∧ (s.abandonOpen).engine = s.engine ∧
    (s.abandonOpen).memPort = s.memPort ∧ (s.abandonOpen).records = s.records ∧ (s.abandonOpen).ports = s.ports ∧
    (s.abandonOpen).frameMem = s.frameMem ∧ (s.abandonOpen).wire = s.wire ∧ (s.abandonOpen).freeCount = s.freeCount := by
  simp [State.abandonOpen]

/-- The jobs of a dropped exposure: their ends leave the rest alone. -/
theorem State.failWaiting_keeps {β : Type} (g : State → β) (h : ∀ s n, g (State.endJob s n .failedExposureDropped) = g s)
    (l : List Nat) (s : State) : g (l.foldl (fun s n => s.endJob n .failedExposureDropped) s) = g s :=
  foldl_keeps _ g (fun s n => h s n) l s

/-- R67 leaves the rest alone. -/
@[simp] theorem State.dropOldest_keeps (s : State) :
    (s.dropOldest).records = s.records ∧ (s.dropOldest).pending = s.pending ∧ (s.dropOldest).timebase = s.timebase ∧ (s.dropOldest).power = s.power ∧
    (s.dropOldest).resetCtl = s.resetCtl ∧ (s.dropOldest).edits = s.edits ∧ (s.dropOldest).tracker = s.tracker ∧
    (s.dropOldest).frameMem = s.frameMem ∧ (s.dropOldest).wire = s.wire ∧ (s.dropOldest).freeCount = s.freeCount := by
  unfold State.dropOldest
  split
  · simp
  · dsimp only
    split
    · simp only [State.withLog_keeps]
      refine ⟨?_, ?_, ?_, ?_, ?_, ?_, ?_, ?_, ?_, ?_⟩ <;>
        exact (State.failWaiting_keeps _ (by simp) _ _).trans (by simp)
    · simp

/-- Making room leaves what a removal leaves. -/
@[simp] theorem State.makeRoom_keeps (s : State) :
    (s.makeRoom).records = s.records ∧ (s.makeRoom).pending = s.pending ∧ (s.makeRoom).timebase = s.timebase ∧ (s.makeRoom).power = s.power ∧
    (s.makeRoom).resetCtl = s.resetCtl ∧ (s.makeRoom).edits = s.edits ∧ (s.makeRoom).tracker = s.tracker ∧
    (s.makeRoom).frameMem = s.frameMem ∧ (s.makeRoom).wire = s.wire ∧ (s.makeRoom).freeCount = s.freeCount := by
  unfold State.makeRoom
  repeat' split
  all_goals simp

/-- A new record changes the Exposure Unit alone. -/
@[simp] theorem State.addExposure_keeps (s : State) (t : Stamp) :
    (s.addExposure t).pending = s.pending ∧ (s.addExposure t).timebase = s.timebase ∧ (s.addExposure t).power = s.power ∧
    (s.addExposure t).resetCtl = s.resetCtl ∧ (s.addExposure t).store = s.store ∧ (s.addExposure t).edits = s.edits ∧
    (s.addExposure t).tracker = s.tracker ∧ (s.addExposure t).jobs = s.jobs ∧ (s.addExposure t).engine = s.engine ∧
    (s.addExposure t).memPort = s.memPort ∧ (s.addExposure t).records = s.records ∧ (s.addExposure t).ports = s.ports ∧
    (s.addExposure t).frameMem = s.frameMem ∧ (s.addExposure t).wire = s.wire ∧
    (s.addExposure t).freeCount = s.freeCount := by
  simp [State.addExposure]

/-- R66 leaves the rest alone. -/
@[simp] theorem State.startExposure_keeps (s : State) (t : Stamp) :
    (s.startExposure t).records = s.records ∧ (s.startExposure t).pending = s.pending ∧ (s.startExposure t).timebase = s.timebase ∧
    (s.startExposure t).resetCtl = s.resetCtl ∧ (s.startExposure t).edits = s.edits ∧
    (s.startExposure t).tracker = s.tracker ∧ (s.startExposure t).frameMem = s.frameMem ∧
    (s.startExposure t).wire = s.wire ∧ (s.startExposure t).freeCount = s.freeCount := by
  simp [State.startExposure]

/-- A filter's move changes the Exposure Unit alone. -/
@[simp] theorem State.setFilter_keeps (s : State) (l : TriggerLine) (f : Filter) :
    (s.setFilter l f).pending = s.pending ∧ (s.setFilter l f).timebase = s.timebase ∧ (s.setFilter l f).power = s.power ∧
    (s.setFilter l f).resetCtl = s.resetCtl ∧ (s.setFilter l f).store = s.store ∧ (s.setFilter l f).edits = s.edits ∧
    (s.setFilter l f).tracker = s.tracker ∧ (s.setFilter l f).jobs = s.jobs ∧ (s.setFilter l f).engine = s.engine ∧
    (s.setFilter l f).memPort = s.memPort ∧ (s.setFilter l f).records = s.records ∧ (s.setFilter l f).ports = s.ports ∧
    (s.setFilter l f).frameMem = s.frameMem ∧ (s.setFilter l f).wire = s.wire ∧
    (s.setFilter l f).freeCount = s.freeCount := by
  cases l <;> simp [State.setFilter]

/-- R69 to R72 change what a resolution changes. -/
@[simp] theorem State.endExposure_keeps (s : State) (e : ExposureRec) (t : Stamp) :
    (s.endExposure e t).pending = s.pending ∧ (s.endExposure e t).timebase = s.timebase ∧
    (s.endExposure e t).power = s.power ∧ (s.endExposure e t).resetCtl = s.resetCtl ∧ (s.endExposure e t).edits = s.edits ∧
    (s.endExposure e t).tracker = s.tracker ∧ (s.endExposure e t).engine = s.engine ∧
    (s.endExposure e t).memPort = s.memPort ∧ (s.endExposure e t).records = s.records ∧
    (s.endExposure e t).ports = s.ports ∧ (s.endExposure e t).frameMem = s.frameMem ∧ (s.endExposure e t).wire = s.wire ∧
    (s.endExposure e t).freeCount = s.freeCount := by
  unfold State.endExposure
  dsimp only
  repeat' split
  all_goals simp

/-- R69 changes what a resolution changes. -/
@[simp] theorem State.takeEnd_keeps (s : State) (t : Stamp) :
    (s.takeEnd t).pending = s.pending ∧ (s.takeEnd t).timebase = s.timebase ∧ (s.takeEnd t).power = s.power ∧
    (s.takeEnd t).resetCtl = s.resetCtl ∧ (s.takeEnd t).edits = s.edits ∧ (s.takeEnd t).tracker = s.tracker ∧
    (s.takeEnd t).engine = s.engine ∧ (s.takeEnd t).memPort = s.memPort ∧ (s.takeEnd t).records = s.records ∧
    (s.takeEnd t).ports = s.ports ∧ (s.takeEnd t).frameMem = s.frameMem ∧ (s.takeEnd t).wire = s.wire ∧
    (s.takeEnd t).freeCount = s.freeCount := by
  unfold State.takeEnd; repeat' split
  all_goals simp

/-! ### Requests and events -/

/-- R118 leaves what the end of a job leaves. -/
@[simp] theorem State.cancelSuppressed_keeps (s : State) (j : Job) :
    (s.cancelSuppressed j).records = s.records ∧ (s.cancelSuppressed j).pending = s.pending ∧ (s.cancelSuppressed j).timebase = s.timebase ∧
    (s.cancelSuppressed j).power = s.power ∧ (s.cancelSuppressed j).resetCtl = s.resetCtl ∧
    (s.cancelSuppressed j).edits = s.edits ∧ (s.cancelSuppressed j).tracker = s.tracker ∧
    (s.cancelSuppressed j).exposure = s.exposure ∧ (s.cancelSuppressed j).frameMem = s.frameMem ∧
    (s.cancelSuppressed j).wire = s.wire ∧ (s.cancelSuppressed j).freeCount = s.freeCount := by
  simp [State.cancelSuppressed]

/-- R118 leaves what the end of a job leaves. -/
@[simp] theorem State.cancelPortJobs_keeps (s : State) (p : Port) :
    (s.cancelPortJobs p).records = s.records ∧ (s.cancelPortJobs p).pending = s.pending ∧ (s.cancelPortJobs p).timebase = s.timebase ∧
    (s.cancelPortJobs p).power = s.power ∧ (s.cancelPortJobs p).resetCtl = s.resetCtl ∧
    (s.cancelPortJobs p).edits = s.edits ∧ (s.cancelPortJobs p).tracker = s.tracker ∧
    (s.cancelPortJobs p).exposure = s.exposure ∧ (s.cancelPortJobs p).frameMem = s.frameMem ∧
    (s.cancelPortJobs p).wire = s.wire ∧ (s.cancelPortJobs p).freeCount = s.freeCount := by
  unfold State.cancelPortJobs
  refine ⟨?_, ?_, ?_, ?_, ?_, ?_, ?_, ?_, ?_, ?_, ?_⟩ <;>
    exact foldl_keeps _ _ (by simp) _ _

/-- Freeing a noticed entry changes the Job Manager alone. -/
@[simp] theorem State.freeNoticed_keeps (s : State) (n : Notice) :
    (s.freeNoticed n).pending = s.pending ∧ (s.freeNoticed n).timebase = s.timebase ∧ (s.freeNoticed n).power = s.power ∧
    (s.freeNoticed n).resetCtl = s.resetCtl ∧ (s.freeNoticed n).store = s.store ∧ (s.freeNoticed n).edits = s.edits ∧
    (s.freeNoticed n).tracker = s.tracker ∧ (s.freeNoticed n).exposure = s.exposure ∧ (s.freeNoticed n).engine = s.engine ∧
    (s.freeNoticed n).memPort = s.memPort ∧ (s.freeNoticed n).records = s.records ∧ (s.freeNoticed n).ports = s.ports ∧
    (s.freeNoticed n).frameMem = s.frameMem ∧ (s.freeNoticed n).wire = s.wire ∧
    (s.freeNoticed n).freeCount = s.freeCount := by
  cases n <;> simp [State.freeNoticed]

/-- R174 steps 3 and 4 change the Job Manager and port records alone. -/
@[simp] theorem State.emptyNotices_keeps (s : State) (p : Port) :
    (s.emptyNotices p).pending = s.pending ∧ (s.emptyNotices p).timebase = s.timebase ∧ (s.emptyNotices p).power = s.power ∧
    (s.emptyNotices p).resetCtl = s.resetCtl ∧ (s.emptyNotices p).store = s.store ∧ (s.emptyNotices p).edits = s.edits ∧
    (s.emptyNotices p).tracker = s.tracker ∧ (s.emptyNotices p).exposure = s.exposure ∧
    (s.emptyNotices p).engine = s.engine ∧ (s.emptyNotices p).memPort = s.memPort ∧ (s.emptyNotices p).records = s.records ∧
    (s.emptyNotices p).frameMem = s.frameMem ∧ (s.emptyNotices p).wire = s.wire ∧
    (s.emptyNotices p).freeCount = s.freeCount := by
  unfold State.emptyNotices
  refine ⟨?_, ?_, ?_, ?_, ?_, ?_, ?_, ?_, ?_, ?_, ?_, ?_, ?_, ?_⟩ <;>
    exact (foldl_keeps State.freeNoticed _ (by simp) _ _).trans (by simp)

/-- R49 leaves the rest alone. -/
@[simp] theorem State.detachLens_keeps (s : State) :
    (s.detachLens).pending = s.pending ∧ (s.detachLens).timebase = s.timebase ∧ (s.detachLens).power = s.power ∧
    (s.detachLens).resetCtl = s.resetCtl ∧ (s.detachLens).edits = s.edits ∧ (s.detachLens).engine = s.engine ∧
    (s.detachLens).memPort = s.memPort ∧ (s.detachLens).records = s.records ∧ (s.detachLens).frameMem = s.frameMem ∧
    (s.detachLens).wire = s.wire ∧ (s.detachLens).freeCount = s.freeCount := by
  simp [State.detachLens]

/-- R47 changes the tracker and port records alone. -/
@[simp] theorem State.attachLens_keeps (s : State) (k : LensKey) (f : Nat) :
    (s.attachLens k f).pending = s.pending ∧ (s.attachLens k f).timebase = s.timebase ∧ (s.attachLens k f).power = s.power ∧
    (s.attachLens k f).resetCtl = s.resetCtl ∧ (s.attachLens k f).store = s.store ∧ (s.attachLens k f).edits = s.edits ∧
    (s.attachLens k f).exposure = s.exposure ∧ (s.attachLens k f).jobs = s.jobs ∧ (s.attachLens k f).engine = s.engine ∧
    (s.attachLens k f).memPort = s.memPort ∧ (s.attachLens k f).records = s.records ∧
    (s.attachLens k f).frameMem = s.frameMem ∧ (s.attachLens k f).wire = s.wire ∧
    (s.attachLens k f).freeCount = s.freeCount := by
  simp [State.attachLens]

/-- R52 leaves the rest alone. -/
@[simp] theorem State.takeReport_keeps (s : State) (r : Report) :
    (s.takeReport r).pending = s.pending ∧ (s.takeReport r).timebase = s.timebase ∧ (s.takeReport r).power = s.power ∧
    (s.takeReport r).resetCtl = s.resetCtl ∧ (s.takeReport r).edits = s.edits ∧ (s.takeReport r).engine = s.engine ∧
    (s.takeReport r).memPort = s.memPort ∧ (s.takeReport r).records = s.records ∧ (s.takeReport r).ports = s.ports ∧
    (s.takeReport r).frameMem = s.frameMem ∧ (s.takeReport r).wire = s.wire ∧ (s.takeReport r).freeCount = s.freeCount := by
  simp [State.takeReport]

/-- R27 changes the store and the edit records alone. -/
@[simp] theorem State.openEdit_keeps (s : State) (p : Port) (i : Fin 32) (k : LensKey) (x y : Int) (c : Sections) :
    (s.openEdit p i k x y c).pending = s.pending ∧ (s.openEdit p i k x y c).timebase = s.timebase ∧
    (s.openEdit p i k x y c).power = s.power ∧ (s.openEdit p i k x y c).resetCtl = s.resetCtl ∧
    (s.openEdit p i k x y c).tracker = s.tracker ∧ (s.openEdit p i k x y c).exposure = s.exposure ∧
    (s.openEdit p i k x y c).jobs = s.jobs ∧ (s.openEdit p i k x y c).engine = s.engine ∧
    (s.openEdit p i k x y c).memPort = s.memPort ∧ (s.openEdit p i k x y c).records = s.records ∧
    (s.openEdit p i k x y c).ports = s.ports ∧ (s.openEdit p i k x y c).frameMem = s.frameMem ∧
    (s.openEdit p i k x y c).wire = s.wire ∧ (s.openEdit p i k x y c).freeCount = s.freeCount := by
  simp [State.openEdit]

/-- A write to an edit changes the store alone. -/
@[simp] theorem State.rewrite_keeps (s : State) (e : Edit) (v : Staging) (b : Nat) :
    (s.rewrite e v b).pending = s.pending ∧ (s.rewrite e v b).timebase = s.timebase ∧ (s.rewrite e v b).power = s.power ∧
    (s.rewrite e v b).resetCtl = s.resetCtl ∧ (s.rewrite e v b).edits = s.edits ∧ (s.rewrite e v b).tracker = s.tracker ∧
    (s.rewrite e v b).exposure = s.exposure ∧ (s.rewrite e v b).jobs = s.jobs ∧ (s.rewrite e v b).engine = s.engine ∧
    (s.rewrite e v b).memPort = s.memPort ∧ (s.rewrite e v b).records = s.records ∧ (s.rewrite e v b).ports = s.ports ∧
    (s.rewrite e v b).frameMem = s.frameMem ∧ (s.rewrite e v b).wire = s.wire ∧
    (s.rewrite e v b).freeCount = s.freeCount := by
  simp [State.rewrite]

/-- R38 leaves the rest alone. -/
@[simp] theorem State.commitEdit_keeps (s : State) (p : Port) (e : Edit) (v : Staging) (b : Nat) :
    (s.commitEdit p e v b).pending = s.pending ∧ (s.commitEdit p e v b).timebase = s.timebase ∧
    (s.commitEdit p e v b).power = s.power ∧ (s.commitEdit p e v b).resetCtl = s.resetCtl ∧
    (s.commitEdit p e v b).exposure = s.exposure ∧ (s.commitEdit p e v b).jobs = s.jobs ∧
    (s.commitEdit p e v b).engine = s.engine ∧ (s.commitEdit p e v b).memPort = s.memPort ∧
    (s.commitEdit p e v b).records = s.records ∧ (s.commitEdit p e v b).frameMem = s.frameMem ∧
    (s.commitEdit p e v b).wire = s.wire ∧ (s.commitEdit p e v b).freeCount = s.freeCount := by
  simp [State.commitEdit]

/-- R21 leaves the rest alone. -/
@[simp] theorem State.deleteProfile_keeps (s : State) (i : Fin 32) :
    (s.deleteProfile i).pending = s.pending ∧ (s.deleteProfile i).timebase = s.timebase ∧
    (s.deleteProfile i).power = s.power ∧ (s.deleteProfile i).resetCtl = s.resetCtl ∧ (s.deleteProfile i).edits = s.edits ∧
    (s.deleteProfile i).exposure = s.exposure ∧ (s.deleteProfile i).jobs = s.jobs ∧ (s.deleteProfile i).engine = s.engine ∧
    (s.deleteProfile i).memPort = s.memPort ∧ (s.deleteProfile i).records = s.records ∧
    (s.deleteProfile i).frameMem = s.frameMem ∧ (s.deleteProfile i).wire = s.wire ∧
    (s.deleteProfile i).freeCount = s.freeCount := by
  simp [State.deleteProfile]

/-- R102 leaves what the end of a job leaves. -/
@[simp] theorem State.flushStream_keeps (s : State) (i : StreamId) :
    (s.flushStream i).records = s.records ∧ (s.flushStream i).pending = s.pending ∧ (s.flushStream i).timebase = s.timebase ∧ (s.flushStream i).power = s.power ∧
    (s.flushStream i).resetCtl = s.resetCtl ∧ (s.flushStream i).edits = s.edits ∧ (s.flushStream i).tracker = s.tracker ∧
    (s.flushStream i).exposure = s.exposure ∧ (s.flushStream i).frameMem = s.frameMem ∧ (s.flushStream i).wire = s.wire ∧
    (s.flushStream i).freeCount = s.freeCount := by
  unfold State.flushStream
  simp only [State.drainHalt_keeps]
  refine ⟨?_, ?_, ?_, ?_, ?_, ?_, ?_, ?_, ?_, ?_, ?_⟩ <;>
    exact (foldl_keeps State.cancel _ (by simp) _ _).trans (by simp)

/-- R112 leaves what the end of a job leaves. -/
@[simp] theorem State.supersede_keeps (s : State) (i : StreamId) :
    (s.supersede i).records = s.records ∧ (s.supersede i).pending = s.pending ∧ (s.supersede i).timebase = s.timebase ∧ (s.supersede i).power = s.power ∧
    (s.supersede i).resetCtl = s.resetCtl ∧ (s.supersede i).edits = s.edits ∧ (s.supersede i).tracker = s.tracker ∧
    (s.supersede i).exposure = s.exposure ∧ (s.supersede i).frameMem = s.frameMem ∧ (s.supersede i).wire = s.wire ∧
    (s.supersede i).freeCount = s.freeCount := by
  cases i
  · simp [State.supersede]
  · unfold State.supersede
    dsimp only
    refine ⟨?_, ?_, ?_, ?_, ?_, ?_, ?_, ?_, ?_, ?_, ?_⟩ <;>
      exact foldl_keeps (fun s (j : Job) => s.endJob j.number .skipped) _ (by simp) _ _

/-- A new entry changes the Job Manager and the store alone. -/
@[simp] theorem State.enter_keeps (s : State) (x : Submission) (e : ExposureRec) :
    (s.enter x e).pending = s.pending ∧ (s.enter x e).timebase = s.timebase ∧ (s.enter x e).power = s.power ∧
    (s.enter x e).resetCtl = s.resetCtl ∧ (s.enter x e).edits = s.edits ∧ (s.enter x e).tracker = s.tracker ∧
    (s.enter x e).exposure = s.exposure ∧ (s.enter x e).engine = s.engine ∧ (s.enter x e).memPort = s.memPort ∧
    (s.enter x e).records = s.records ∧ (s.enter x e).ports = s.ports ∧ (s.enter x e).frameMem = s.frameMem ∧
    (s.enter x e).wire = s.wire ∧ (s.enter x e).freeCount = s.freeCount := by
  unfold State.enter
  repeat' split
  all_goals simp

/-- R111 leaves the rest alone. -/
@[simp] theorem State.submitFrame_keeps (s : State) (i : StreamId) (e : ExposureRec) (a b : Descriptor) :
    (s.submitFrame i e a b).records = s.records ∧ (s.submitFrame i e a b).pending = s.pending ∧ (s.submitFrame i e a b).timebase = s.timebase ∧
    (s.submitFrame i e a b).resetCtl = s.resetCtl ∧ (s.submitFrame i e a b).edits = s.edits ∧
    (s.submitFrame i e a b).tracker = s.tracker ∧ (s.submitFrame i e a b).exposure = s.exposure ∧
    (s.submitFrame i e a b).frameMem = s.frameMem ∧ (s.submitFrame i e a b).wire = s.wire ∧
    (s.submitFrame i e a b).freeCount = s.freeCount := by
  simp [State.submitFrame]

/-- R160 leaves the rest alone. -/
@[simp] theorem State.submitUrgent_keeps (s : State) (a : UrgentArgs) (g : Geometry) (r : FrameRecord) :
    (s.submitUrgent a g r).records = s.records ∧ (s.submitUrgent a g r).pending = s.pending ∧ (s.submitUrgent a g r).timebase = s.timebase ∧
    (s.submitUrgent a g r).resetCtl = s.resetCtl ∧ (s.submitUrgent a g r).edits = s.edits ∧
    (s.submitUrgent a g r).tracker = s.tracker ∧ (s.submitUrgent a g r).exposure = s.exposure ∧
    (s.submitUrgent a g r).frameMem = s.frameMem ∧ (s.submitUrgent a g r).wire = s.wire ∧
    (s.submitUrgent a g r).freeCount = s.freeCount := by
  simp [State.submitUrgent]

/-- R134 leaves what the end of a job leaves. -/
@[simp] theorem State.resumePaused_keeps (s : State) (c : Context) :
    (s.resumePaused c).records = s.records ∧ (s.resumePaused c).pending = s.pending ∧ (s.resumePaused c).timebase = s.timebase ∧ (s.resumePaused c).power = s.power ∧
    (s.resumePaused c).resetCtl = s.resetCtl ∧ (s.resumePaused c).edits = s.edits ∧ (s.resumePaused c).tracker = s.tracker ∧
    (s.resumePaused c).exposure = s.exposure ∧ (s.resumePaused c).frameMem = s.frameMem ∧ (s.resumePaused c).wire = s.wire ∧
    (s.resumePaused c).freeCount = s.freeCount := by
  unfold State.resumePaused
  repeat' split
  all_goals simp

/-- R141 leaves what the end of a job leaves. -/
@[simp] theorem State.grantMemory_keeps (s : State) :
    (s.grantMemory).records = s.records ∧ (s.grantMemory).pending = s.pending ∧ (s.grantMemory).timebase = s.timebase ∧ (s.grantMemory).power = s.power ∧
    (s.grantMemory).resetCtl = s.resetCtl ∧ (s.grantMemory).edits = s.edits ∧ (s.grantMemory).tracker = s.tracker ∧
    (s.grantMemory).exposure = s.exposure ∧ (s.grantMemory).frameMem = s.frameMem ∧ (s.grantMemory).wire = s.wire ∧
    (s.grantMemory).freeCount = s.freeCount := by
  unfold State.grantMemory
  repeat' split
  all_goals simp

/-- R143 changes the Frame Memory Port alone. -/
@[simp] theorem State.takeWithdrawal_keeps (s : State) :
    (s.takeWithdrawal).pending = s.pending ∧ (s.takeWithdrawal).timebase = s.timebase ∧ (s.takeWithdrawal).power = s.power ∧
    (s.takeWithdrawal).resetCtl = s.resetCtl ∧ (s.takeWithdrawal).store = s.store ∧ (s.takeWithdrawal).edits = s.edits ∧
    (s.takeWithdrawal).tracker = s.tracker ∧ (s.takeWithdrawal).exposure = s.exposure ∧ (s.takeWithdrawal).jobs = s.jobs ∧
    (s.takeWithdrawal).engine = s.engine ∧ (s.takeWithdrawal).records = s.records ∧ (s.takeWithdrawal).ports = s.ports ∧
    (s.takeWithdrawal).frameMem = s.frameMem ∧ (s.takeWithdrawal).wire = s.wire ∧
    (s.takeWithdrawal).freeCount = s.freeCount := by
  unfold State.takeWithdrawal
  repeat' split
  all_goals simp

/-- The held response changes port records alone. -/
@[simp] theorem State.sendHeld_keeps (s : State) (w : WithdrawalTaken) :
    (s.sendHeld w).pending = s.pending ∧ (s.sendHeld w).timebase = s.timebase ∧ (s.sendHeld w).power = s.power ∧
    (s.sendHeld w).resetCtl = s.resetCtl ∧ (s.sendHeld w).store = s.store ∧ (s.sendHeld w).edits = s.edits ∧
    (s.sendHeld w).tracker = s.tracker ∧ (s.sendHeld w).exposure = s.exposure ∧ (s.sendHeld w).jobs = s.jobs ∧
    (s.sendHeld w).engine = s.engine ∧ (s.sendHeld w).memPort = s.memPort ∧ (s.sendHeld w).records = s.records ∧
    (s.sendHeld w).frameMem = s.frameMem ∧ (s.sendHeld w).wire = s.wire ∧ (s.sendHeld w).freeCount = s.freeCount := by
  unfold State.sendHeld
  repeat' split
  all_goals simp

/-- The held response changes port records alone. -/
@[simp] theorem State.answerHeld_keeps (s : State) (b : Bool) (w : WithdrawalTaken) :
    (s.answerHeld b w).pending = s.pending ∧ (s.answerHeld b w).timebase = s.timebase ∧ (s.answerHeld b w).power = s.power ∧
    (s.answerHeld b w).resetCtl = s.resetCtl ∧ (s.answerHeld b w).store = s.store ∧ (s.answerHeld b w).edits = s.edits ∧
    (s.answerHeld b w).tracker = s.tracker ∧ (s.answerHeld b w).exposure = s.exposure ∧ (s.answerHeld b w).jobs = s.jobs ∧
    (s.answerHeld b w).engine = s.engine ∧ (s.answerHeld b w).memPort = s.memPort ∧ (s.answerHeld b w).records = s.records ∧
    (s.answerHeld b w).frameMem = s.frameMem ∧ (s.answerHeld b w).wire = s.wire ∧
    (s.answerHeld b w).freeCount = s.freeCount := by
  unfold State.answerHeld
  repeat' split
  all_goals simp

/-- R129 step 1 changes the Job Manager and the engine alone. -/
@[simp] theorem State.countBand_keeps (s : State) (c : Context) (b : Bool) :
    (s.countBand c b).pending = s.pending ∧ (s.countBand c b).timebase = s.timebase ∧ (s.countBand c b).power = s.power ∧
    (s.countBand c b).resetCtl = s.resetCtl ∧ (s.countBand c b).store = s.store ∧ (s.countBand c b).edits = s.edits ∧
    (s.countBand c b).tracker = s.tracker ∧ (s.countBand c b).exposure = s.exposure ∧
    (s.countBand c b).memPort = s.memPort ∧ (s.countBand c b).records = s.records ∧ (s.countBand c b).ports = s.ports ∧
    (s.countBand c b).frameMem = s.frameMem ∧ (s.countBand c b).wire = s.wire ∧
    (s.countBand c b).freeCount = s.freeCount := by
  simp [State.countBand]

/-- R129 step 2 leaves what the end of a job leaves. -/
@[simp] theorem State.boundaryCancel_keeps (s : State) (j : Job) :
    (s.boundaryCancel j).records = s.records ∧ (s.boundaryCancel j).pending = s.pending ∧ (s.boundaryCancel j).timebase = s.timebase ∧
    (s.boundaryCancel j).power = s.power ∧ (s.boundaryCancel j).resetCtl = s.resetCtl ∧
    (s.boundaryCancel j).edits = s.edits ∧ (s.boundaryCancel j).tracker = s.tracker ∧
    (s.boundaryCancel j).exposure = s.exposure ∧ (s.boundaryCancel j).frameMem = s.frameMem ∧
    (s.boundaryCancel j).wire = s.wire ∧ (s.boundaryCancel j).freeCount = s.freeCount := by
  unfold State.boundaryCancel
  repeat' split
  all_goals simp

/-- R129 step 3 leaves the rest alone. -/
@[simp] theorem State.boundaryWithdraw_keeps (s : State) (b : Nat) :
    (s.boundaryWithdraw b).pending = s.pending ∧ (s.boundaryWithdraw b).timebase = s.timebase ∧
    (s.boundaryWithdraw b).power = s.power ∧ (s.boundaryWithdraw b).resetCtl = s.resetCtl ∧
    (s.boundaryWithdraw b).store = s.store ∧ (s.boundaryWithdraw b).edits = s.edits ∧
    (s.boundaryWithdraw b).tracker = s.tracker ∧ (s.boundaryWithdraw b).exposure = s.exposure ∧
    (s.boundaryWithdraw b).records = s.records ∧ (s.boundaryWithdraw b).ports = s.ports ∧
    (s.boundaryWithdraw b).frameMem = s.frameMem ∧ (s.boundaryWithdraw b).wire = s.wire ∧
    (s.boundaryWithdraw b).freeCount = s.freeCount := by
  unfold State.boundaryWithdraw; repeat' split
  all_goals simp

/-- R129 step 4 leaves the rest alone. -/
@[simp] theorem State.boundaryPreempt_keeps (s : State) (j : Job) :
    (s.boundaryPreempt j).pending = s.pending ∧ (s.boundaryPreempt j).timebase = s.timebase ∧
    (s.boundaryPreempt j).power = s.power ∧ (s.boundaryPreempt j).resetCtl = s.resetCtl ∧
    (s.boundaryPreempt j).store = s.store ∧ (s.boundaryPreempt j).edits = s.edits ∧
    (s.boundaryPreempt j).tracker = s.tracker ∧ (s.boundaryPreempt j).exposure = s.exposure ∧
    (s.boundaryPreempt j).memPort = s.memPort ∧ (s.boundaryPreempt j).records = s.records ∧
    (s.boundaryPreempt j).ports = s.ports ∧ (s.boundaryPreempt j).frameMem = s.frameMem ∧
    (s.boundaryPreempt j).wire = s.wire ∧ (s.boundaryPreempt j).freeCount = s.freeCount := by
  unfold State.boundaryPreempt; repeat' split
  all_goals simp

/-- R129 step 5 leaves what the end of a job leaves. -/
@[simp] theorem State.boundaryComplete_keeps (s : State) (j : Job) :
    (s.boundaryComplete j).pending = s.pending ∧ (s.boundaryComplete j).timebase = s.timebase ∧
    (s.boundaryComplete j).power = s.power ∧ (s.boundaryComplete j).resetCtl = s.resetCtl ∧
    (s.boundaryComplete j).edits = s.edits ∧ (s.boundaryComplete j).tracker = s.tracker ∧
    (s.boundaryComplete j).exposure = s.exposure ∧ (s.boundaryComplete j).frameMem = s.frameMem ∧
    (s.boundaryComplete j).wire = s.wire ∧ (s.boundaryComplete j).freeCount = s.freeCount := by
  unfold State.boundaryComplete; repeat' split
  all_goals simp

/-- R129 leaves what the end of a job leaves. -/
@[simp] theorem State.boundary_keeps (s : State) (c : Context) (j : Job) (b : Bool) :
    (s.boundary c j b).pending = s.pending ∧ (s.boundary c j b).timebase = s.timebase ∧ (s.boundary c j b).power = s.power ∧
    (s.boundary c j b).resetCtl = s.resetCtl ∧ (s.boundary c j b).edits = s.edits ∧ (s.boundary c j b).tracker = s.tracker ∧
    (s.boundary c j b).exposure = s.exposure ∧ (s.boundary c j b).frameMem = s.frameMem ∧ (s.boundary c j b).wire = s.wire ∧
    (s.boundary c j b).freeCount = s.freeCount := by
  simp [State.boundary]

/-- R133 leaves what the end of a job leaves. -/
@[simp] theorem State.fail_keeps (s : State) (j : Job) :
    (s.fail j).records = s.records ∧ (s.fail j).pending = s.pending ∧ (s.fail j).timebase = s.timebase ∧ (s.fail j).power = s.power ∧
    (s.fail j).resetCtl = s.resetCtl ∧ (s.fail j).edits = s.edits ∧ (s.fail j).tracker = s.tracker ∧
    (s.fail j).exposure = s.exposure ∧ (s.fail j).frameMem = s.frameMem ∧ (s.fail j).wire = s.wire ∧
    (s.fail j).freeCount = s.freeCount := by
  simp [State.fail]

/-- R45 changes the tracker alone. -/
@[simp] theorem State.ageReports_keeps (s : State) :
    (s.ageReports).pending = s.pending ∧ (s.ageReports).timebase = s.timebase ∧ (s.ageReports).power = s.power ∧
    (s.ageReports).resetCtl = s.resetCtl ∧ (s.ageReports).store = s.store ∧ (s.ageReports).edits = s.edits ∧
    (s.ageReports).exposure = s.exposure ∧ (s.ageReports).jobs = s.jobs ∧ (s.ageReports).engine = s.engine ∧
    (s.ageReports).memPort = s.memPort ∧ (s.ageReports).records = s.records ∧ (s.ageReports).ports = s.ports ∧
    (s.ageReports).frameMem = s.frameMem ∧ (s.ageReports).wire = s.wire ∧ (s.ageReports).freeCount = s.freeCount := by
  simp [State.ageReports]

/-- A read-out changes port records alone. -/
@[simp] theorem State.readOut_keeps (s : State) (p : Port) :
    (s.readOut p).pending = s.pending ∧ (s.readOut p).timebase = s.timebase ∧ (s.readOut p).power = s.power ∧
    (s.readOut p).resetCtl = s.resetCtl ∧ (s.readOut p).store = s.store ∧ (s.readOut p).edits = s.edits ∧
    (s.readOut p).tracker = s.tracker ∧ (s.readOut p).exposure = s.exposure ∧ (s.readOut p).jobs = s.jobs ∧
    (s.readOut p).engine = s.engine ∧ (s.readOut p).memPort = s.memPort ∧ (s.readOut p).records = s.records ∧
    (s.readOut p).frameMem = s.frameMem ∧ (s.readOut p).wire = s.wire ∧ (s.readOut p).freeCount = s.freeCount := by
  simp [State.readOut]

/-- What is due changes the queue and the free value counter alone. -/
@[simp] theorem State.enqueue_keeps (s : State) (l : List Instr) :
    (s.enqueue l).timebase = s.timebase ∧ (s.enqueue l).power = s.power ∧ (s.enqueue l).resetCtl = s.resetCtl ∧
    (s.enqueue l).store = s.store ∧ (s.enqueue l).edits = s.edits ∧ (s.enqueue l).tracker = s.tracker ∧
    (s.enqueue l).exposure = s.exposure ∧ (s.enqueue l).jobs = s.jobs ∧ (s.enqueue l).engine = s.engine ∧
    (s.enqueue l).memPort = s.memPort ∧ (s.enqueue l).records = s.records ∧ (s.enqueue l).ports = s.ports ∧
    (s.enqueue l).frameMem = s.frameMem ∧ (s.enqueue l).wire = s.wire := by
  unfold State.enqueue
  repeat' split
  all_goals simp

/-- The beginning of a reset keeps the queue and the record of what was sent. -/
@[simp] theorem State.beginReset_keeps (s : State) (c : ResetCtl) :
    (s.beginReset c).pending = s.pending ∧ (s.beginReset c).wire = s.wire := ⟨rfl, rfl⟩

/-- The end of a reset keeps the queue, frame memory, the record of what was sent and the free value counter. -/
@[simp] theorem State.afterReset_keeps (s : State) :
    s.afterReset.pending = s.pending ∧ s.afterReset.frameMem = s.frameMem ∧ s.afterReset.wire = s.wire ∧
    s.afterReset.freeCount = s.freeCount := ⟨rfl, rfl, rfl, rfl⟩

/-- Sending a response keeps the queue. -/
@[simp] theorem State.sendResponse_pending (s : State) (p : Port) (x : ReadExtent) (r : Response) :
    (s.sendResponse p x r).pending = s.pending := by
  unfold State.sendResponse
  dsimp only
  repeat' split
  all_goals simp

end Sys2Proof.Machine
end

