-- ==== Sys2Proof/Laws/Owners.lean ====
section
/-! SUPPORT. What the owner of each request leaves alone, whatever its outcome. -/

namespace Sys2Proof.Machine

@[simp] theorem refuse_state (s : State) (c : Code) : (refuse s c).state = s := rfl
@[simp] theorem refuseWith_state (s : State) (c : Code) (a : Answer) : (refuseWith s c a).state = s := rfl
@[simp] theorem answerOk_state (s : State) (a : Answer) : (answerOk s a).state = s := rfl
@[simp] theorem wroteOk_state (s : State) (v : Staging) : (wroteOk s v).state = s := rfl
@[simp] theorem writeRefused_state (s : State) (c : Code) (v : Staging) (i : Option Nat) :
    (writeRefused s c v i).state = s := rfl
@[simp] theorem writeFull_state (s : State) (v : Staging) (n : Nat) : (writeFull s v n).state = s := rfl

/-- Freeing the entries of removed notices changes the Job Manager alone. -/
@[simp] theorem State.freeAll_keeps (l : List Notice) (s : State) :
    (l.foldl State.freeNoticed s).pending = s.pending ∧ (l.foldl State.freeNoticed s).timebase = s.timebase ∧
    (l.foldl State.freeNoticed s).power = s.power ∧ (l.foldl State.freeNoticed s).resetCtl = s.resetCtl ∧
    (l.foldl State.freeNoticed s).store = s.store ∧ (l.foldl State.freeNoticed s).edits = s.edits ∧
    (l.foldl State.freeNoticed s).tracker = s.tracker ∧ (l.foldl State.freeNoticed s).exposure = s.exposure ∧
    (l.foldl State.freeNoticed s).engine = s.engine ∧ (l.foldl State.freeNoticed s).memPort = s.memPort ∧
    (l.foldl State.freeNoticed s).records = s.records ∧ (l.foldl State.freeNoticed s).ports = s.ports ∧
    (l.foldl State.freeNoticed s).frameMem = s.frameMem ∧ (l.foldl State.freeNoticed s).wire = s.wire ∧
    (l.foldl State.freeNoticed s).freeCount = s.freeCount := by
  refine ⟨?_, ?_, ?_, ?_, ?_, ?_, ?_, ?_, ?_, ?_, ?_, ?_, ?_, ?_, ?_⟩ <;> exact foldl_keeps State.freeNoticed _ (by simp) _ _

@[simp] theorem ownQueryTime_keeps (s : State) :
    (ownQueryTime s).state.pending = s.pending ∧ (ownQueryTime s).state.timebase = s.timebase ∧
    (ownQueryTime s).state.power = s.power ∧ (ownQueryTime s).state.resetCtl = s.resetCtl ∧
    (ownQueryTime s).state.store = s.store ∧ (ownQueryTime s).state.edits = s.edits ∧
    (ownQueryTime s).state.tracker = s.tracker ∧ (ownQueryTime s).state.exposure = s.exposure ∧
    (ownQueryTime s).state.jobs = s.jobs ∧ (ownQueryTime s).state.engine = s.engine ∧
    (ownQueryTime s).state.memPort = s.memPort ∧ (ownQueryTime s).state.records = s.records ∧
    (ownQueryTime s).state.ports = s.ports ∧ (ownQueryTime s).state.frameMem = s.frameMem ∧
    (ownQueryTime s).state.wire = s.wire ∧ (ownQueryTime s).state.freeCount = s.freeCount := by
  unfold ownQueryTime
  try dsimp only
  repeat' split
  all_goals simp

@[simp] theorem ownFetchNotices_keeps (p : Port) (s : State) :
    (ownFetchNotices p s).state.pending = s.pending ∧ (ownFetchNotices p s).state.timebase = s.timebase ∧
    (ownFetchNotices p s).state.power = s.power ∧ (ownFetchNotices p s).state.resetCtl = s.resetCtl ∧
    (ownFetchNotices p s).state.store = s.store ∧ (ownFetchNotices p s).state.edits = s.edits ∧
    (ownFetchNotices p s).state.tracker = s.tracker ∧ (ownFetchNotices p s).state.exposure = s.exposure ∧
    (ownFetchNotices p s).state.engine = s.engine ∧ (ownFetchNotices p s).state.memPort = s.memPort ∧
    (ownFetchNotices p s).state.records = s.records ∧ (ownFetchNotices p s).state.frameMem = s.frameMem ∧
    (ownFetchNotices p s).state.wire = s.wire ∧ (ownFetchNotices p s).state.freeCount = s.freeCount := by
  unfold ownFetchNotices
  try dsimp only
  repeat' split
  all_goals simp

@[simp] theorem ownSetNoticeMask_keeps (p : Port) (bits : Byte) (s : State) :
    (ownSetNoticeMask p bits s).state.pending = s.pending ∧ (ownSetNoticeMask p bits s).state.timebase = s.timebase ∧
    (ownSetNoticeMask p bits s).state.power = s.power ∧ (ownSetNoticeMask p bits s).state.resetCtl = s.resetCtl ∧
    (ownSetNoticeMask p bits s).state.store = s.store ∧ (ownSetNoticeMask p bits s).state.edits = s.edits ∧
    (ownSetNoticeMask p bits s).state.tracker = s.tracker ∧ (ownSetNoticeMask p bits s).state.exposure = s.exposure ∧
    (ownSetNoticeMask p bits s).state.jobs = s.jobs ∧ (ownSetNoticeMask p bits s).state.engine = s.engine ∧
    (ownSetNoticeMask p bits s).state.memPort = s.memPort ∧ (ownSetNoticeMask p bits s).state.records = s.records ∧
    (ownSetNoticeMask p bits s).state.frameMem = s.frameMem ∧ (ownSetNoticeMask p bits s).state.wire = s.wire ∧
    (ownSetNoticeMask p bits s).state.freeCount = s.freeCount := by
  unfold ownSetNoticeMask
  try dsimp only
  repeat' split
  all_goals simp

@[simp] theorem ownResetPort_keeps (p : Port) (s : State) :
    (ownResetPort p s).state.pending = s.pending ∧ (ownResetPort p s).state.timebase = s.timebase ∧
    (ownResetPort p s).state.power = s.power ∧ (ownResetPort p s).state.resetCtl = s.resetCtl ∧
    (ownResetPort p s).state.tracker = s.tracker ∧ (ownResetPort p s).state.exposure = s.exposure ∧
    (ownResetPort p s).state.records = s.records ∧ (ownResetPort p s).state.frameMem = s.frameMem ∧
    (ownResetPort p s).state.wire = s.wire ∧ (ownResetPort p s).state.freeCount = s.freeCount := by
  unfold ownResetPort
  try dsimp only
  repeat' split
  all_goals simp

@[simp] theorem ownLensAttached_keeps (key : LensKey) (firmware : Nat) (s : State) :
    (ownLensAttached key firmware s).state.pending = s.pending ∧
    (ownLensAttached key firmware s).state.timebase = s.timebase ∧
    (ownLensAttached key firmware s).state.power = s.power ∧
    (ownLensAttached key firmware s).state.resetCtl = s.resetCtl ∧
    (ownLensAttached key firmware s).state.edits = s.edits ∧
    (ownLensAttached key firmware s).state.records = s.records ∧
    (ownLensAttached key firmware s).state.frameMem = s.frameMem ∧
    (ownLensAttached key firmware s).state.wire = s.wire ∧
    (ownLensAttached key firmware s).state.freeCount = s.freeCount := by
  unfold ownLensAttached
  try dsimp only
  repeat' split
  all_goals simp

@[simp] theorem ownLensDetached_keeps (s : State) :
    (ownLensDetached s).state.pending = s.pending ∧ (ownLensDetached s).state.timebase = s.timebase ∧
    (ownLensDetached s).state.power = s.power ∧ (ownLensDetached s).state.resetCtl = s.resetCtl ∧
    (ownLensDetached s).state.edits = s.edits ∧ (ownLensDetached s).state.records = s.records ∧
    (ownLensDetached s).state.frameMem = s.frameMem ∧ (ownLensDetached s).state.wire = s.wire ∧
    (ownLensDetached s).state.freeCount = s.freeCount := by
  unfold ownLensDetached
  try dsimp only
  repeat' split
  all_goals simp

@[simp] theorem ownLensState_keeps (l : LensState) (latency : Nat) (stamp : Stamp) (s : State) :
    (ownLensState l latency stamp s).state.pending = s.pending ∧
    (ownLensState l latency stamp s).state.timebase = s.timebase ∧
    (ownLensState l latency stamp s).state.power = s.power ∧
    (ownLensState l latency stamp s).state.resetCtl = s.resetCtl ∧
    (ownLensState l latency stamp s).state.edits = s.edits ∧
    (ownLensState l latency stamp s).state.records = s.records ∧
    (ownLensState l latency stamp s).state.frameMem = s.frameMem ∧
    (ownLensState l latency stamp s).state.wire = s.wire ∧
    (ownLensState l latency stamp s).state.freeCount = s.freeCount := by
  unfold ownLensState
  try dsimp only
  repeat' split
  all_goals simp

@[simp] theorem ownQueryLens_keeps (s : State) :
    (ownQueryLens s).state.pending = s.pending ∧ (ownQueryLens s).state.timebase = s.timebase ∧
    (ownQueryLens s).state.power = s.power ∧ (ownQueryLens s).state.resetCtl = s.resetCtl ∧
    (ownQueryLens s).state.store = s.store ∧ (ownQueryLens s).state.edits = s.edits ∧
    (ownQueryLens s).state.tracker = s.tracker ∧ (ownQueryLens s).state.exposure = s.exposure ∧
    (ownQueryLens s).state.jobs = s.jobs ∧ (ownQueryLens s).state.engine = s.engine ∧
    (ownQueryLens s).state.memPort = s.memPort ∧ (ownQueryLens s).state.records = s.records ∧
    (ownQueryLens s).state.ports = s.ports ∧ (ownQueryLens s).state.frameMem = s.frameMem ∧
    (ownQueryLens s).state.wire = s.wire ∧ (ownQueryLens s).state.freeCount = s.freeCount := by
  unfold ownQueryLens
  try dsimp only
  repeat' split
  all_goals simp

@[simp] theorem ownSetLensTiming_keeps (limit : Nat) (s : State) :
    (ownSetLensTiming limit s).state.pending = s.pending ∧ (ownSetLensTiming limit s).state.timebase = s.timebase ∧
    (ownSetLensTiming limit s).state.power = s.power ∧ (ownSetLensTiming limit s).state.resetCtl = s.resetCtl ∧
    (ownSetLensTiming limit s).state.store = s.store ∧ (ownSetLensTiming limit s).state.edits = s.edits ∧
    (ownSetLensTiming limit s).state.exposure = s.exposure ∧ (ownSetLensTiming limit s).state.jobs = s.jobs ∧
    (ownSetLensTiming limit s).state.engine = s.engine ∧ (ownSetLensTiming limit s).state.memPort = s.memPort ∧
    (ownSetLensTiming limit s).state.records = s.records ∧ (ownSetLensTiming limit s).state.ports = s.ports ∧
    (ownSetLensTiming limit s).state.frameMem = s.frameMem ∧ (ownSetLensTiming limit s).state.wire = s.wire ∧
    (ownSetLensTiming limit s).state.freeCount = s.freeCount := by
  unfold ownSetLensTiming
  try dsimp only
  repeat' split
  all_goals simp

@[simp] theorem ownOpenEdit_keeps (p : Port) (slot : Nat) (key : LensKey) (cx cy : Int) (carry : Byte) (s : State) :
    (ownOpenEdit p slot key cx cy carry s).state.pending = s.pending ∧
    (ownOpenEdit p slot key cx cy carry s).state.timebase = s.timebase ∧
    (ownOpenEdit p slot key cx cy carry s).state.power = s.power ∧
    (ownOpenEdit p slot key cx cy carry s).state.resetCtl = s.resetCtl ∧
    (ownOpenEdit p slot key cx cy carry s).state.tracker = s.tracker ∧
    (ownOpenEdit p slot key cx cy carry s).state.exposure = s.exposure ∧
    (ownOpenEdit p slot key cx cy carry s).state.jobs = s.jobs ∧
    (ownOpenEdit p slot key cx cy carry s).state.engine = s.engine ∧
    (ownOpenEdit p slot key cx cy carry s).state.memPort = s.memPort ∧
    (ownOpenEdit p slot key cx cy carry s).state.records = s.records ∧
    (ownOpenEdit p slot key cx cy carry s).state.ports = s.ports ∧
    (ownOpenEdit p slot key cx cy carry s).state.frameMem = s.frameMem ∧
    (ownOpenEdit p slot key cx cy carry s).state.wire = s.wire ∧
    (ownOpenEdit p slot key cx cy carry s).state.freeCount = s.freeCount := by
  unfold ownOpenEdit
  try dsimp only
  repeat' split
  all_goals simp

@[simp] theorem ownWriteNodes_keeps (p : Port) (nodes : List NodeRecord) (s : State) :
    (ownWriteNodes p nodes s).state.pending = s.pending ∧ (ownWriteNodes p nodes s).state.timebase = s.timebase ∧
    (ownWriteNodes p nodes s).state.power = s.power ∧ (ownWriteNodes p nodes s).state.resetCtl = s.resetCtl ∧
    (ownWriteNodes p nodes s).state.edits = s.edits ∧ (ownWriteNodes p nodes s).state.tracker = s.tracker ∧
    (ownWriteNodes p nodes s).state.exposure = s.exposure ∧ (ownWriteNodes p nodes s).state.jobs = s.jobs ∧
    (ownWriteNodes p nodes s).state.engine = s.engine ∧ (ownWriteNodes p nodes s).state.memPort = s.memPort ∧
    (ownWriteNodes p nodes s).state.records = s.records ∧ (ownWriteNodes p nodes s).state.ports = s.ports ∧
    (ownWriteNodes p nodes s).state.frameMem = s.frameMem ∧ (ownWriteNodes p nodes s).state.wire = s.wire ∧
    (ownWriteNodes p nodes s).state.freeCount = s.freeCount := by
  unfold ownWriteNodes
  try dsimp only
  repeat' split
  all_goals simp

@[simp] theorem ownWriteChroma_keeps (p : Port) (records : List ChromaRecord) (s : State) :
    (ownWriteChroma p records s).state.pending = s.pending ∧ (ownWriteChroma p records s).state.timebase = s.timebase ∧
    (ownWriteChroma p records s).state.power = s.power ∧ (ownWriteChroma p records s).state.resetCtl = s.resetCtl ∧
    (ownWriteChroma p records s).state.edits = s.edits ∧ (ownWriteChroma p records s).state.tracker = s.tracker ∧
    (ownWriteChroma p records s).state.exposure = s.exposure ∧ (ownWriteChroma p records s).state.jobs = s.jobs ∧
    (ownWriteChroma p records s).state.engine = s.engine ∧ (ownWriteChroma p records s).state.memPort = s.memPort ∧
    (ownWriteChroma p records s).state.records = s.records ∧ (ownWriteChroma p records s).state.ports = s.ports ∧
    (ownWriteChroma p records s).state.frameMem = s.frameMem ∧ (ownWriteChroma p records s).state.wire = s.wire ∧
    (ownWriteChroma p records s).state.freeCount = s.freeCount := by
  unfold ownWriteChroma
  try dsimp only
  repeat' split
  all_goals simp

@[simp] theorem ownWriteCrop_keeps (p : Port) (scale : Nat) (s : State) :
    (ownWriteCrop p scale s).state.pending = s.pending ∧ (ownWriteCrop p scale s).state.timebase = s.timebase ∧
    (ownWriteCrop p scale s).state.power = s.power ∧ (ownWriteCrop p scale s).state.resetCtl = s.resetCtl ∧
    (ownWriteCrop p scale s).state.edits = s.edits ∧ (ownWriteCrop p scale s).state.tracker = s.tracker ∧
    (ownWriteCrop p scale s).state.exposure = s.exposure ∧ (ownWriteCrop p scale s).state.jobs = s.jobs ∧
    (ownWriteCrop p scale s).state.engine = s.engine ∧ (ownWriteCrop p scale s).state.memPort = s.memPort ∧
    (ownWriteCrop p scale s).state.records = s.records ∧ (ownWriteCrop p scale s).state.ports = s.ports ∧
    (ownWriteCrop p scale s).state.frameMem = s.frameMem ∧ (ownWriteCrop p scale s).state.wire = s.wire ∧
    (ownWriteCrop p scale s).state.freeCount = s.freeCount := by
  unfold ownWriteCrop
  try dsimp only
  repeat' split
  all_goals simp

@[simp] theorem ownCommitEdit_keeps (p : Port) (s : State) :
    (ownCommitEdit p s).state.pending = s.pending ∧ (ownCommitEdit p s).state.timebase = s.timebase ∧
    (ownCommitEdit p s).state.power = s.power ∧ (ownCommitEdit p s).state.resetCtl = s.resetCtl ∧
    (ownCommitEdit p s).state.exposure = s.exposure ∧ (ownCommitEdit p s).state.jobs = s.jobs ∧
    (ownCommitEdit p s).state.engine = s.engine ∧ (ownCommitEdit p s).state.memPort = s.memPort ∧
    (ownCommitEdit p s).state.records = s.records ∧ (ownCommitEdit p s).state.frameMem = s.frameMem ∧
    (ownCommitEdit p s).state.wire = s.wire ∧ (ownCommitEdit p s).state.freeCount = s.freeCount := by
  unfold ownCommitEdit
  try dsimp only
  repeat' split
  all_goals simp

@[simp] theorem ownAbortEdit_keeps (p : Port) (s : State) :
    (ownAbortEdit p s).state.pending = s.pending ∧ (ownAbortEdit p s).state.timebase = s.timebase ∧
    (ownAbortEdit p s).state.power = s.power ∧ (ownAbortEdit p s).state.resetCtl = s.resetCtl ∧
    (ownAbortEdit p s).state.tracker = s.tracker ∧ (ownAbortEdit p s).state.exposure = s.exposure ∧
    (ownAbortEdit p s).state.jobs = s.jobs ∧ (ownAbortEdit p s).state.engine = s.engine ∧
    (ownAbortEdit p s).state.memPort = s.memPort ∧ (ownAbortEdit p s).state.records = s.records ∧
    (ownAbortEdit p s).state.ports = s.ports ∧ (ownAbortEdit p s).state.frameMem = s.frameMem ∧
    (ownAbortEdit p s).state.wire = s.wire ∧ (ownAbortEdit p s).state.freeCount = s.freeCount := by
  unfold ownAbortEdit
  try dsimp only
  repeat' split
  all_goals simp

@[simp] theorem ownReadProfile_keeps (slot index : Nat) (s : State) :
    (ownReadProfile slot index s).state.pending = s.pending ∧
    (ownReadProfile slot index s).state.timebase = s.timebase ∧ (ownReadProfile slot index s).state.power = s.power ∧
    (ownReadProfile slot index s).state.resetCtl = s.resetCtl ∧ (ownReadProfile slot index s).state.store = s.store ∧
    (ownReadProfile slot index s).state.edits = s.edits ∧ (ownReadProfile slot index s).state.tracker = s.tracker ∧
    (ownReadProfile slot index s).state.exposure = s.exposure ∧ (ownReadProfile slot index s).state.jobs = s.jobs ∧
    (ownReadProfile slot index s).state.engine = s.engine ∧ (ownReadProfile slot index s).state.memPort = s.memPort ∧
    (ownReadProfile slot index s).state.records = s.records ∧ (ownReadProfile slot index s).state.ports = s.ports ∧
    (ownReadProfile slot index s).state.frameMem = s.frameMem ∧ (ownReadProfile slot index s).state.wire = s.wire ∧
    (ownReadProfile slot index s).state.freeCount = s.freeCount := by
  unfold ownReadProfile
  try dsimp only
  repeat' split
  all_goals simp

@[simp] theorem ownReadNode_keeps (slot index : Nat) (s : State) :
    (ownReadNode slot index s).state.pending = s.pending ∧ (ownReadNode slot index s).state.timebase = s.timebase ∧
    (ownReadNode slot index s).state.power = s.power ∧ (ownReadNode slot index s).state.resetCtl = s.resetCtl ∧
    (ownReadNode slot index s).state.store = s.store ∧ (ownReadNode slot index s).state.edits = s.edits ∧
    (ownReadNode slot index s).state.tracker = s.tracker ∧ (ownReadNode slot index s).state.exposure = s.exposure ∧
    (ownReadNode slot index s).state.jobs = s.jobs ∧ (ownReadNode slot index s).state.engine = s.engine ∧
    (ownReadNode slot index s).state.memPort = s.memPort ∧ (ownReadNode slot index s).state.records = s.records ∧
    (ownReadNode slot index s).state.ports = s.ports ∧ (ownReadNode slot index s).state.frameMem = s.frameMem ∧
    (ownReadNode slot index s).state.wire = s.wire ∧ (ownReadNode slot index s).state.freeCount = s.freeCount := by
  unfold ownReadNode
  try dsimp only
  repeat' split
  all_goals simp

@[simp] theorem ownQueryStore_keeps (s : State) :
    (ownQueryStore s).state.pending = s.pending ∧ (ownQueryStore s).state.timebase = s.timebase ∧
    (ownQueryStore s).state.power = s.power ∧ (ownQueryStore s).state.resetCtl = s.resetCtl ∧
    (ownQueryStore s).state.store = s.store ∧ (ownQueryStore s).state.edits = s.edits ∧
    (ownQueryStore s).state.tracker = s.tracker ∧ (ownQueryStore s).state.exposure = s.exposure ∧
    (ownQueryStore s).state.jobs = s.jobs ∧ (ownQueryStore s).state.engine = s.engine ∧
    (ownQueryStore s).state.memPort = s.memPort ∧ (ownQueryStore s).state.records = s.records ∧
    (ownQueryStore s).state.ports = s.ports ∧ (ownQueryStore s).state.frameMem = s.frameMem ∧
    (ownQueryStore s).state.wire = s.wire ∧ (ownQueryStore s).state.freeCount = s.freeCount := by
  unfold ownQueryStore
  try dsimp only
  repeat' split
  all_goals simp

@[simp] theorem ownDeleteProfile_keeps (slot : Nat) (s : State) :
    (ownDeleteProfile slot s).state.pending = s.pending ∧ (ownDeleteProfile slot s).state.timebase = s.timebase ∧
    (ownDeleteProfile slot s).state.power = s.power ∧ (ownDeleteProfile slot s).state.resetCtl = s.resetCtl ∧
    (ownDeleteProfile slot s).state.edits = s.edits ∧ (ownDeleteProfile slot s).state.exposure = s.exposure ∧
    (ownDeleteProfile slot s).state.jobs = s.jobs ∧ (ownDeleteProfile slot s).state.engine = s.engine ∧
    (ownDeleteProfile slot s).state.memPort = s.memPort ∧ (ownDeleteProfile slot s).state.records = s.records ∧
    (ownDeleteProfile slot s).state.frameMem = s.frameMem ∧ (ownDeleteProfile slot s).state.wire = s.wire ∧
    (ownDeleteProfile slot s).state.freeCount = s.freeCount := by
  unfold ownDeleteProfile
  try dsimp only
  repeat' split
  all_goals simp

@[simp] theorem ownQueryExposure_keeps (seq : Nat) (s : State) :
    (ownQueryExposure seq s).state.pending = s.pending ∧ (ownQueryExposure seq s).state.timebase = s.timebase ∧
    (ownQueryExposure seq s).state.power = s.power ∧ (ownQueryExposure seq s).state.resetCtl = s.resetCtl ∧
    (ownQueryExposure seq s).state.store = s.store ∧ (ownQueryExposure seq s).state.edits = s.edits ∧
    (ownQueryExposure seq s).state.tracker = s.tracker ∧ (ownQueryExposure seq s).state.exposure = s.exposure ∧
    (ownQueryExposure seq s).state.jobs = s.jobs ∧ (ownQueryExposure seq s).state.engine = s.engine ∧
    (ownQueryExposure seq s).state.memPort = s.memPort ∧ (ownQueryExposure seq s).state.records = s.records ∧
    (ownQueryExposure seq s).state.ports = s.ports ∧ (ownQueryExposure seq s).state.frameMem = s.frameMem ∧
    (ownQueryExposure seq s).state.wire = s.wire ∧ (ownQueryExposure seq s).state.freeCount = s.freeCount := by
  unfold ownQueryExposure
  try dsimp only
  repeat' split
  all_goals simp

@[simp] theorem ownConfigureStream_keeps (stream : Field StreamId) (args : StreamArgs) (s : State) :
    (ownConfigureStream stream args s).state.pending = s.pending ∧
    (ownConfigureStream stream args s).state.timebase = s.timebase ∧
    (ownConfigureStream stream args s).state.power = s.power ∧
    (ownConfigureStream stream args s).state.resetCtl = s.resetCtl ∧
    (ownConfigureStream stream args s).state.store = s.store ∧
    (ownConfigureStream stream args s).state.edits = s.edits ∧
    (ownConfigureStream stream args s).state.tracker = s.tracker ∧
    (ownConfigureStream stream args s).state.exposure = s.exposure ∧
    (ownConfigureStream stream args s).state.engine = s.engine ∧
    (ownConfigureStream stream args s).state.memPort = s.memPort ∧
    (ownConfigureStream stream args s).state.records = s.records ∧
    (ownConfigureStream stream args s).state.ports = s.ports ∧
    (ownConfigureStream stream args s).state.frameMem = s.frameMem ∧
    (ownConfigureStream stream args s).state.wire = s.wire ∧
    (ownConfigureStream stream args s).state.freeCount = s.freeCount := by
  unfold ownConfigureStream
  try dsimp only
  repeat' split
  all_goals simp

@[simp] theorem ownStartStream_keeps (stream : Field StreamId) (s : State) :
    (ownStartStream stream s).state.pending = s.pending ∧ (ownStartStream stream s).state.timebase = s.timebase ∧
    (ownStartStream stream s).state.power = s.power ∧ (ownStartStream stream s).state.resetCtl = s.resetCtl ∧
    (ownStartStream stream s).state.store = s.store ∧ (ownStartStream stream s).state.edits = s.edits ∧
    (ownStartStream stream s).state.tracker = s.tracker ∧ (ownStartStream stream s).state.exposure = s.exposure ∧
    (ownStartStream stream s).state.engine = s.engine ∧ (ownStartStream stream s).state.memPort = s.memPort ∧
    (ownStartStream stream s).state.records = s.records ∧ (ownStartStream stream s).state.ports = s.ports ∧
    (ownStartStream stream s).state.frameMem = s.frameMem ∧ (ownStartStream stream s).state.wire = s.wire ∧
    (ownStartStream stream s).state.freeCount = s.freeCount := by
  unfold ownStartStream
  try dsimp only
  repeat' split
  all_goals simp

@[simp] theorem ownStopStreamDrain_keeps (stream : Field StreamId) (badMode : Bool) (s : State) :
    (ownStopStreamDrain stream badMode s).state.pending = s.pending ∧
    (ownStopStreamDrain stream badMode s).state.timebase = s.timebase ∧
    (ownStopStreamDrain stream badMode s).state.power = s.power ∧
    (ownStopStreamDrain stream badMode s).state.resetCtl = s.resetCtl ∧
    (ownStopStreamDrain stream badMode s).state.store = s.store ∧
    (ownStopStreamDrain stream badMode s).state.edits = s.edits ∧
    (ownStopStreamDrain stream badMode s).state.tracker = s.tracker ∧
    (ownStopStreamDrain stream badMode s).state.exposure = s.exposure ∧
    (ownStopStreamDrain stream badMode s).state.engine = s.engine ∧
    (ownStopStreamDrain stream badMode s).state.memPort = s.memPort ∧
    (ownStopStreamDrain stream badMode s).state.records = s.records ∧
    (ownStopStreamDrain stream badMode s).state.ports = s.ports ∧
    (ownStopStreamDrain stream badMode s).state.frameMem = s.frameMem ∧
    (ownStopStreamDrain stream badMode s).state.wire = s.wire ∧
    (ownStopStreamDrain stream badMode s).state.freeCount = s.freeCount := by
  unfold ownStopStreamDrain
  try dsimp only
  repeat' split
  all_goals simp

@[simp] theorem ownStopStreamFlush_keeps (stream : Field StreamId) (s : State) :
    (ownStopStreamFlush stream s).state.pending = s.pending ∧
    (ownStopStreamFlush stream s).state.timebase = s.timebase ∧ (ownStopStreamFlush stream s).state.power = s.power ∧
    (ownStopStreamFlush stream s).state.resetCtl = s.resetCtl ∧ (ownStopStreamFlush stream s).state.edits = s.edits ∧
    (ownStopStreamFlush stream s).state.tracker = s.tracker ∧
    (ownStopStreamFlush stream s).state.exposure = s.exposure ∧
    (ownStopStreamFlush stream s).state.records = s.records ∧
    (ownStopStreamFlush stream s).state.frameMem = s.frameMem ∧ (ownStopStreamFlush stream s).state.wire = s.wire ∧
    (ownStopStreamFlush stream s).state.freeCount = s.freeCount := by
  unfold ownStopStreamFlush
  try dsimp only
  repeat' split
  all_goals simp

@[simp] theorem ownQueryStream_keeps (stream : Field StreamId) (s : State) :
    (ownQueryStream stream s).state.pending = s.pending ∧ (ownQueryStream stream s).state.timebase = s.timebase ∧
    (ownQueryStream stream s).state.power = s.power ∧ (ownQueryStream stream s).state.resetCtl = s.resetCtl ∧
    (ownQueryStream stream s).state.store = s.store ∧ (ownQueryStream stream s).state.edits = s.edits ∧
    (ownQueryStream stream s).state.tracker = s.tracker ∧ (ownQueryStream stream s).state.exposure = s.exposure ∧
    (ownQueryStream stream s).state.jobs = s.jobs ∧ (ownQueryStream stream s).state.engine = s.engine ∧
    (ownQueryStream stream s).state.memPort = s.memPort ∧ (ownQueryStream stream s).state.records = s.records ∧
    (ownQueryStream stream s).state.ports = s.ports ∧ (ownQueryStream stream s).state.frameMem = s.frameMem ∧
    (ownQueryStream stream s).state.wire = s.wire ∧ (ownQueryStream stream s).state.freeCount = s.freeCount := by
  unfold ownQueryStream
  try dsimp only
  repeat' split
  all_goals simp

@[simp] theorem ownSubmitFrame_keeps (stream : Field StreamId) (seq : Nat) (source dest : Descriptor) (s : State) :
    (ownSubmitFrame stream seq source dest s).state.pending = s.pending ∧
    (ownSubmitFrame stream seq source dest s).state.timebase = s.timebase ∧
    (ownSubmitFrame stream seq source dest s).state.resetCtl = s.resetCtl ∧
    (ownSubmitFrame stream seq source dest s).state.edits = s.edits ∧
    (ownSubmitFrame stream seq source dest s).state.tracker = s.tracker ∧
    (ownSubmitFrame stream seq source dest s).state.exposure = s.exposure ∧
    (ownSubmitFrame stream seq source dest s).state.records = s.records ∧
    (ownSubmitFrame stream seq source dest s).state.frameMem = s.frameMem ∧
    (ownSubmitFrame stream seq source dest s).state.wire = s.wire ∧
    (ownSubmitFrame stream seq source dest s).state.freeCount = s.freeCount := by
  unfold ownSubmitFrame
  try dsimp only
  repeat' split
  all_goals simp

@[simp] theorem ownQueryJob_keeps (p : Port) (n : Nat) (s : State) :
    (ownQueryJob p n s).state.pending = s.pending ∧ (ownQueryJob p n s).state.timebase = s.timebase ∧
    (ownQueryJob p n s).state.power = s.power ∧ (ownQueryJob p n s).state.resetCtl = s.resetCtl ∧
    (ownQueryJob p n s).state.store = s.store ∧ (ownQueryJob p n s).state.edits = s.edits ∧
    (ownQueryJob p n s).state.tracker = s.tracker ∧ (ownQueryJob p n s).state.exposure = s.exposure ∧
    (ownQueryJob p n s).state.jobs = s.jobs ∧ (ownQueryJob p n s).state.engine = s.engine ∧
    (ownQueryJob p n s).state.memPort = s.memPort ∧ (ownQueryJob p n s).state.records = s.records ∧
    (ownQueryJob p n s).state.ports = s.ports ∧ (ownQueryJob p n s).state.frameMem = s.frameMem ∧
    (ownQueryJob p n s).state.wire = s.wire ∧ (ownQueryJob p n s).state.freeCount = s.freeCount := by
  unfold ownQueryJob
  try dsimp only
  repeat' split
  all_goals simp

@[simp] theorem ownCancelJob_keeps (p : Port) (n : Nat) (s : State) :
    (ownCancelJob p n s).state.pending = s.pending ∧ (ownCancelJob p n s).state.timebase = s.timebase ∧
    (ownCancelJob p n s).state.power = s.power ∧ (ownCancelJob p n s).state.resetCtl = s.resetCtl ∧
    (ownCancelJob p n s).state.edits = s.edits ∧ (ownCancelJob p n s).state.tracker = s.tracker ∧
    (ownCancelJob p n s).state.exposure = s.exposure ∧ (ownCancelJob p n s).state.records = s.records ∧
    (ownCancelJob p n s).state.frameMem = s.frameMem ∧ (ownCancelJob p n s).state.wire = s.wire ∧
    (ownCancelJob p n s).state.freeCount = s.freeCount := by
  unfold ownCancelJob
  try dsimp only
  repeat' split
  all_goals simp

@[simp] theorem ownSetWindow_keeps (base size : Nat) (s : State) :
    (ownSetWindow base size s).state.pending = s.pending ∧ (ownSetWindow base size s).state.timebase = s.timebase ∧
    (ownSetWindow base size s).state.power = s.power ∧ (ownSetWindow base size s).state.resetCtl = s.resetCtl ∧
    (ownSetWindow base size s).state.store = s.store ∧ (ownSetWindow base size s).state.edits = s.edits ∧
    (ownSetWindow base size s).state.tracker = s.tracker ∧ (ownSetWindow base size s).state.exposure = s.exposure ∧
    (ownSetWindow base size s).state.jobs = s.jobs ∧ (ownSetWindow base size s).state.engine = s.engine ∧
    (ownSetWindow base size s).state.records = s.records ∧ (ownSetWindow base size s).state.ports = s.ports ∧
    (ownSetWindow base size s).state.frameMem = s.frameMem ∧ (ownSetWindow base size s).state.wire = s.wire ∧
    (ownSetWindow base size s).state.freeCount = s.freeCount := by
  unfold ownSetWindow
  try dsimp only
  repeat' split
  all_goals simp

@[simp] theorem ownGrantMemory_keeps (s : State) :
    (ownGrantMemory s).state.pending = s.pending ∧ (ownGrantMemory s).state.timebase = s.timebase ∧
    (ownGrantMemory s).state.power = s.power ∧ (ownGrantMemory s).state.resetCtl = s.resetCtl ∧
    (ownGrantMemory s).state.edits = s.edits ∧ (ownGrantMemory s).state.tracker = s.tracker ∧
    (ownGrantMemory s).state.exposure = s.exposure ∧ (ownGrantMemory s).state.records = s.records ∧
    (ownGrantMemory s).state.frameMem = s.frameMem ∧ (ownGrantMemory s).state.wire = s.wire ∧
    (ownGrantMemory s).state.freeCount = s.freeCount := by
  unfold ownGrantMemory
  try dsimp only
  repeat' split
  all_goals simp

@[simp] theorem ownWithdrawMemory_keeps (s : State) :
    (ownWithdrawMemory s).state.pending = s.pending ∧ (ownWithdrawMemory s).state.timebase = s.timebase ∧
    (ownWithdrawMemory s).state.power = s.power ∧ (ownWithdrawMemory s).state.resetCtl = s.resetCtl ∧
    (ownWithdrawMemory s).state.store = s.store ∧ (ownWithdrawMemory s).state.edits = s.edits ∧
    (ownWithdrawMemory s).state.tracker = s.tracker ∧ (ownWithdrawMemory s).state.exposure = s.exposure ∧
    (ownWithdrawMemory s).state.jobs = s.jobs ∧ (ownWithdrawMemory s).state.engine = s.engine ∧
    (ownWithdrawMemory s).state.records = s.records ∧ (ownWithdrawMemory s).state.ports = s.ports ∧
    (ownWithdrawMemory s).state.frameMem = s.frameMem ∧ (ownWithdrawMemory s).state.wire = s.wire ∧
    (ownWithdrawMemory s).state.freeCount = s.freeCount := by
  unfold ownWithdrawMemory
  try dsimp only
  repeat' split
  all_goals simp

@[simp] theorem ownSetPauseLimit_keeps (limit : Nat) (s : State) :
    (ownSetPauseLimit limit s).state.pending = s.pending ∧ (ownSetPauseLimit limit s).state.timebase = s.timebase ∧
    (ownSetPauseLimit limit s).state.power = s.power ∧ (ownSetPauseLimit limit s).state.resetCtl = s.resetCtl ∧
    (ownSetPauseLimit limit s).state.store = s.store ∧ (ownSetPauseLimit limit s).state.edits = s.edits ∧
    (ownSetPauseLimit limit s).state.tracker = s.tracker ∧ (ownSetPauseLimit limit s).state.exposure = s.exposure ∧
    (ownSetPauseLimit limit s).state.jobs = s.jobs ∧ (ownSetPauseLimit limit s).state.engine = s.engine ∧
    (ownSetPauseLimit limit s).state.records = s.records ∧ (ownSetPauseLimit limit s).state.ports = s.ports ∧
    (ownSetPauseLimit limit s).state.frameMem = s.frameMem ∧ (ownSetPauseLimit limit s).state.wire = s.wire ∧
    (ownSetPauseLimit limit s).state.freeCount = s.freeCount := by
  unfold ownSetPauseLimit
  try dsimp only
  repeat' split
  all_goals simp

@[simp] theorem ownQueryMemory_keeps (s : State) :
    (ownQueryMemory s).state.pending = s.pending ∧ (ownQueryMemory s).state.timebase = s.timebase ∧
    (ownQueryMemory s).state.power = s.power ∧ (ownQueryMemory s).state.resetCtl = s.resetCtl ∧
    (ownQueryMemory s).state.store = s.store ∧ (ownQueryMemory s).state.edits = s.edits ∧
    (ownQueryMemory s).state.tracker = s.tracker ∧ (ownQueryMemory s).state.exposure = s.exposure ∧
    (ownQueryMemory s).state.jobs = s.jobs ∧ (ownQueryMemory s).state.engine = s.engine ∧
    (ownQueryMemory s).state.memPort = s.memPort ∧ (ownQueryMemory s).state.records = s.records ∧
    (ownQueryMemory s).state.ports = s.ports ∧ (ownQueryMemory s).state.frameMem = s.frameMem ∧
    (ownQueryMemory s).state.wire = s.wire ∧ (ownQueryMemory s).state.freeCount = s.freeCount := by
  unfold ownQueryMemory
  try dsimp only
  repeat' split
  all_goals simp

@[simp] theorem ownReadRecords_keeps (start count : Nat) (s : State) :
    (ownReadRecords start count s).state.pending = s.pending ∧
    (ownReadRecords start count s).state.timebase = s.timebase ∧ (ownReadRecords start count s).state.power = s.power ∧
    (ownReadRecords start count s).state.resetCtl = s.resetCtl ∧ (ownReadRecords start count s).state.store = s.store ∧
    (ownReadRecords start count s).state.edits = s.edits ∧ (ownReadRecords start count s).state.tracker = s.tracker ∧
    (ownReadRecords start count s).state.exposure = s.exposure ∧ (ownReadRecords start count s).state.jobs = s.jobs ∧
    (ownReadRecords start count s).state.engine = s.engine ∧ (ownReadRecords start count s).state.memPort = s.memPort ∧
    (ownReadRecords start count s).state.records = s.records ∧ (ownReadRecords start count s).state.ports = s.ports ∧
    (ownReadRecords start count s).state.frameMem = s.frameMem ∧ (ownReadRecords start count s).state.wire = s.wire ∧
    (ownReadRecords start count s).state.freeCount = s.freeCount := by
  unfold ownReadRecords
  try dsimp only
  repeat' split
  all_goals simp

@[simp] theorem urgentWith_keeps (a : UrgentArgs) (r : FrameRecord) (g : Geometry) (s : State) :
    (urgentWith a r g s).state.pending = s.pending ∧ (urgentWith a r g s).state.timebase = s.timebase ∧
    (urgentWith a r g s).state.resetCtl = s.resetCtl ∧ (urgentWith a r g s).state.edits = s.edits ∧
    (urgentWith a r g s).state.tracker = s.tracker ∧ (urgentWith a r g s).state.exposure = s.exposure ∧
    (urgentWith a r g s).state.records = s.records ∧ (urgentWith a r g s).state.frameMem = s.frameMem ∧
    (urgentWith a r g s).state.wire = s.wire ∧ (urgentWith a r g s).state.freeCount = s.freeCount := by
  unfold urgentWith
  try dsimp only
  repeat' split
  all_goals simp

@[simp] theorem ownSubmitUrgent_keeps (a : UrgentArgs) (s : State) :
    (ownSubmitUrgent a s).state.pending = s.pending ∧ (ownSubmitUrgent a s).state.timebase = s.timebase ∧
    (ownSubmitUrgent a s).state.resetCtl = s.resetCtl ∧ (ownSubmitUrgent a s).state.edits = s.edits ∧
    (ownSubmitUrgent a s).state.tracker = s.tracker ∧ (ownSubmitUrgent a s).state.exposure = s.exposure ∧
    (ownSubmitUrgent a s).state.records = s.records ∧ (ownSubmitUrgent a s).state.frameMem = s.frameMem ∧
    (ownSubmitUrgent a s).state.wire = s.wire ∧ (ownSubmitUrgent a s).state.freeCount = s.freeCount := by
  unfold ownSubmitUrgent
  try dsimp only
  repeat' split
  all_goals simp

@[simp] theorem ownStandby_keeps (s : State) :
    (ownStandby s).state.pending = s.pending ∧ (ownStandby s).state.timebase = s.timebase ∧
    (ownStandby s).state.resetCtl = s.resetCtl ∧ (ownStandby s).state.store = s.store ∧
    (ownStandby s).state.edits = s.edits ∧ (ownStandby s).state.tracker = s.tracker ∧
    (ownStandby s).state.exposure = s.exposure ∧ (ownStandby s).state.jobs = s.jobs ∧
    (ownStandby s).state.engine = s.engine ∧ (ownStandby s).state.memPort = s.memPort ∧
    (ownStandby s).state.records = s.records ∧ (ownStandby s).state.ports = s.ports ∧
    (ownStandby s).state.frameMem = s.frameMem ∧ (ownStandby s).state.wire = s.wire ∧
    (ownStandby s).state.freeCount = s.freeCount := by
  unfold ownStandby
  try dsimp only
  repeat' split
  all_goals simp

@[simp] theorem ownWake_keeps (s : State) :
    (ownWake s).state.pending = s.pending ∧ (ownWake s).state.timebase = s.timebase ∧
    (ownWake s).state.resetCtl = s.resetCtl ∧ (ownWake s).state.store = s.store ∧ (ownWake s).state.edits = s.edits ∧
    (ownWake s).state.tracker = s.tracker ∧ (ownWake s).state.exposure = s.exposure ∧
    (ownWake s).state.jobs = s.jobs ∧ (ownWake s).state.engine = s.engine ∧ (ownWake s).state.memPort = s.memPort ∧
    (ownWake s).state.records = s.records ∧ (ownWake s).state.ports = s.ports ∧
    (ownWake s).state.frameMem = s.frameMem ∧ (ownWake s).state.wire = s.wire ∧
    (ownWake s).state.freeCount = s.freeCount := by
  unfold ownWake
  try dsimp only
  repeat' split
  all_goals simp

end Sys2Proof.Machine
end

