-- ==== Sys2Proof/Laws/Commands.lean ====
section
/-! SUPPORT. What each command leaves alone when it answers a next state: the blocks of the state it does not touch. -/

namespace Sys2Proof.Machine

theorem execQueryTime_keeps {h : Hdr} {s : State} {t : State} (ht : execQueryTime h s = .next t) :
    t.pending = s.pending ∧ t.timebase = s.timebase ∧ t.power = s.power ∧ t.resetCtl = s.resetCtl ∧ t.store = s.store ∧
    t.edits = s.edits ∧ t.tracker = s.tracker ∧ t.exposure = s.exposure ∧ t.jobs = s.jobs ∧ t.engine = s.engine ∧
    t.memPort = s.memPort ∧ t.records = s.records ∧ t.frameMem = s.frameMem ∧ t.freeCount = s.freeCount := by
  refine request_invariant (P := fun t =>
    t.pending = s.pending ∧ t.timebase = s.timebase ∧ t.power = s.power ∧ t.resetCtl = s.resetCtl ∧ t.store = s.store ∧
    t.edits = s.edits ∧ t.tracker = s.tracker ∧ t.exposure = s.exposure ∧ t.jobs = s.jobs ∧ t.engine = s.engine ∧
    t.memPort = s.memPort ∧ t.records = s.records ∧ t.frameMem = s.frameMem ∧ t.freeCount = s.freeCount) ?_ ?_ ?_ (by simp) ht
  · simp +contextual
  · simp +contextual
  · simp +contextual

theorem execFetchNotices_keeps {h : Hdr} {s : State} {t : State} (ht : execFetchNotices h s = .next t) :
    t.pending = s.pending ∧ t.timebase = s.timebase ∧ t.power = s.power ∧ t.resetCtl = s.resetCtl ∧ t.store = s.store ∧
    t.edits = s.edits ∧ t.tracker = s.tracker ∧ t.exposure = s.exposure ∧ t.engine = s.engine ∧ t.memPort = s.memPort ∧
    t.records = s.records ∧ t.frameMem = s.frameMem ∧ t.freeCount = s.freeCount := by
  refine request_invariant (P := fun t =>
    t.pending = s.pending ∧ t.timebase = s.timebase ∧ t.power = s.power ∧ t.resetCtl = s.resetCtl ∧ t.store = s.store ∧
    t.edits = s.edits ∧ t.tracker = s.tracker ∧ t.exposure = s.exposure ∧ t.engine = s.engine ∧ t.memPort = s.memPort ∧
    t.records = s.records ∧ t.frameMem = s.frameMem ∧ t.freeCount = s.freeCount) ?_ ?_ ?_ (by simp) ht
  · simp +contextual
  · simp +contextual
  · simp +contextual

theorem execSetNoticeMask_keeps {h : Hdr} {mask : Byte} {s : State} {t : State} (ht : execSetNoticeMask h mask s = .next t) :
    t.pending = s.pending ∧ t.timebase = s.timebase ∧ t.power = s.power ∧ t.resetCtl = s.resetCtl ∧ t.store = s.store ∧
    t.edits = s.edits ∧ t.tracker = s.tracker ∧ t.exposure = s.exposure ∧ t.jobs = s.jobs ∧ t.engine = s.engine ∧
    t.memPort = s.memPort ∧ t.records = s.records ∧ t.frameMem = s.frameMem ∧ t.freeCount = s.freeCount := by
  refine request_invariant (P := fun t =>
    t.pending = s.pending ∧ t.timebase = s.timebase ∧ t.power = s.power ∧ t.resetCtl = s.resetCtl ∧ t.store = s.store ∧
    t.edits = s.edits ∧ t.tracker = s.tracker ∧ t.exposure = s.exposure ∧ t.jobs = s.jobs ∧ t.engine = s.engine ∧
    t.memPort = s.memPort ∧ t.records = s.records ∧ t.frameMem = s.frameMem ∧ t.freeCount = s.freeCount) ?_ ?_ ?_ (by simp) ht
  · simp +contextual
  · simp +contextual
  · simp +contextual

theorem execResetPort_keeps {h : Hdr} {s : State} {t : State} (ht : execResetPort h s = .next t) :
    t.pending = s.pending ∧ t.timebase = s.timebase ∧ t.power = s.power ∧ t.resetCtl = s.resetCtl ∧ t.tracker = s.tracker ∧
    t.exposure = s.exposure ∧ t.records = s.records ∧ t.frameMem = s.frameMem ∧ t.freeCount = s.freeCount := by
  refine request_invariant (P := fun t =>
    t.pending = s.pending ∧ t.timebase = s.timebase ∧ t.power = s.power ∧ t.resetCtl = s.resetCtl ∧ t.tracker = s.tracker ∧
    t.exposure = s.exposure ∧ t.records = s.records ∧ t.frameMem = s.frameMem ∧ t.freeCount = s.freeCount) ?_ ?_ ?_ (by simp) ht
  · simp +contextual
  · simp +contextual
  · simp +contextual

theorem execQueryLens_keeps {h : Hdr} {s : State} {t : State} (ht : execQueryLens h s = .next t) :
    t.pending = s.pending ∧ t.timebase = s.timebase ∧ t.power = s.power ∧ t.resetCtl = s.resetCtl ∧ t.store = s.store ∧
    t.edits = s.edits ∧ t.tracker = s.tracker ∧ t.exposure = s.exposure ∧ t.jobs = s.jobs ∧ t.engine = s.engine ∧
    t.memPort = s.memPort ∧ t.records = s.records ∧ t.frameMem = s.frameMem ∧ t.freeCount = s.freeCount := by
  refine request_invariant (P := fun t =>
    t.pending = s.pending ∧ t.timebase = s.timebase ∧ t.power = s.power ∧ t.resetCtl = s.resetCtl ∧ t.store = s.store ∧
    t.edits = s.edits ∧ t.tracker = s.tracker ∧ t.exposure = s.exposure ∧ t.jobs = s.jobs ∧ t.engine = s.engine ∧
    t.memPort = s.memPort ∧ t.records = s.records ∧ t.frameMem = s.frameMem ∧ t.freeCount = s.freeCount) ?_ ?_ ?_ (by simp) ht
  · simp +contextual
  · simp +contextual
  · simp +contextual

theorem execResetPart_keeps {h : Hdr} {s : State} {t : State} (ht : execResetPart h s = .next t) :
    t.pending = s.pending ∧ t.timebase = s.timebase ∧ t.power = s.power ∧ t.resetCtl = s.resetCtl ∧ t.store = s.store ∧
    t.edits = s.edits ∧ t.tracker = s.tracker ∧ t.exposure = s.exposure ∧ t.jobs = s.jobs ∧ t.engine = s.engine ∧
    t.memPort = s.memPort ∧ t.records = s.records ∧ t.frameMem = s.frameMem ∧ t.freeCount = s.freeCount := by
  refine request_invariant (P := fun t =>
    t.pending = s.pending ∧ t.timebase = s.timebase ∧ t.power = s.power ∧ t.resetCtl = s.resetCtl ∧ t.store = s.store ∧
    t.edits = s.edits ∧ t.tracker = s.tracker ∧ t.exposure = s.exposure ∧ t.jobs = s.jobs ∧ t.engine = s.engine ∧
    t.memPort = s.memPort ∧ t.records = s.records ∧ t.frameMem = s.frameMem ∧ t.freeCount = s.freeCount) ?_ ?_ ?_ (by simp) ht
  · simp +contextual
  · simp +contextual
  · simp +contextual

theorem execLensAttached_keeps {h : Hdr} {model converter firmware : Nat} {s : State} {t : State} (ht : execLensAttached h model converter firmware s = .next t) :
    t.pending = s.pending ∧ t.timebase = s.timebase ∧ t.power = s.power ∧ t.resetCtl = s.resetCtl ∧ t.edits = s.edits ∧
    t.records = s.records ∧ t.frameMem = s.frameMem ∧ t.freeCount = s.freeCount := by
  refine request_invariant (P := fun t =>
    t.pending = s.pending ∧ t.timebase = s.timebase ∧ t.power = s.power ∧ t.resetCtl = s.resetCtl ∧ t.edits = s.edits ∧
    t.records = s.records ∧ t.frameMem = s.frameMem ∧ t.freeCount = s.freeCount) ?_ ?_ ?_ (by simp) ht
  · simp +contextual
  · simp +contextual
  · simp +contextual

theorem execLensDetached_keeps {h : Hdr} {s : State} {t : State} (ht : execLensDetached h s = .next t) :
    t.pending = s.pending ∧ t.timebase = s.timebase ∧ t.power = s.power ∧ t.resetCtl = s.resetCtl ∧ t.edits = s.edits ∧
    t.records = s.records ∧ t.frameMem = s.frameMem ∧ t.freeCount = s.freeCount := by
  refine request_invariant (P := fun t =>
    t.pending = s.pending ∧ t.timebase = s.timebase ∧ t.power = s.power ∧ t.resetCtl = s.resetCtl ∧ t.edits = s.edits ∧
    t.records = s.records ∧ t.frameMem = s.frameMem ∧ t.freeCount = s.freeCount) ?_ ?_ ?_ (by simp) ht
  · simp +contextual
  · simp +contextual
  · simp +contextual

theorem execLensState_keeps {h : Hdr} {nominal focus aperture latency transit : Nat} {s : State} {t : State} (ht : execLensState h nominal focus aperture latency transit s = .next t) :
    t.pending = s.pending ∧ t.timebase = s.timebase ∧ t.power = s.power ∧ t.resetCtl = s.resetCtl ∧ t.edits = s.edits ∧
    t.records = s.records ∧ t.frameMem = s.frameMem ∧ t.freeCount = s.freeCount := by
  refine request_invariant (P := fun t =>
    t.pending = s.pending ∧ t.timebase = s.timebase ∧ t.power = s.power ∧ t.resetCtl = s.resetCtl ∧ t.edits = s.edits ∧
    t.records = s.records ∧ t.frameMem = s.frameMem ∧ t.freeCount = s.freeCount) ?_ ?_ ?_ (by simp) ht
  · simp +contextual
  · simp +contextual
  · simp +contextual

theorem execSetLensTiming_keeps {h : Hdr} {limit : Nat} {s : State} {t : State} (ht : execSetLensTiming h limit s = .next t) :
    t.pending = s.pending ∧ t.timebase = s.timebase ∧ t.power = s.power ∧ t.resetCtl = s.resetCtl ∧ t.store = s.store ∧
    t.edits = s.edits ∧ t.exposure = s.exposure ∧ t.jobs = s.jobs ∧ t.engine = s.engine ∧ t.memPort = s.memPort ∧
    t.records = s.records ∧ t.frameMem = s.frameMem ∧ t.freeCount = s.freeCount := by
  refine request_invariant (P := fun t =>
    t.pending = s.pending ∧ t.timebase = s.timebase ∧ t.power = s.power ∧ t.resetCtl = s.resetCtl ∧ t.store = s.store ∧
    t.edits = s.edits ∧ t.exposure = s.exposure ∧ t.jobs = s.jobs ∧ t.engine = s.engine ∧ t.memPort = s.memPort ∧
    t.records = s.records ∧ t.frameMem = s.frameMem ∧ t.freeCount = s.freeCount) ?_ ?_ ?_ (by simp) ht
  · simp +contextual
  · simp +contextual
  · simp +contextual

theorem execOpenEdit_keeps {h : Hdr} {slot : Nat} {key : LensKey} {cx cy : Int} {carry : Byte} {s : State} {t : State} (ht : execOpenEdit h slot key cx cy carry s = .next t) :
    t.pending = s.pending ∧ t.timebase = s.timebase ∧ t.power = s.power ∧ t.resetCtl = s.resetCtl ∧ t.tracker = s.tracker ∧
    t.exposure = s.exposure ∧ t.jobs = s.jobs ∧ t.engine = s.engine ∧ t.memPort = s.memPort ∧ t.records = s.records ∧
    t.frameMem = s.frameMem ∧ t.freeCount = s.freeCount := by
  refine request_invariant (P := fun t =>
    t.pending = s.pending ∧ t.timebase = s.timebase ∧ t.power = s.power ∧ t.resetCtl = s.resetCtl ∧ t.tracker = s.tracker ∧
    t.exposure = s.exposure ∧ t.jobs = s.jobs ∧ t.engine = s.engine ∧ t.memPort = s.memPort ∧ t.records = s.records ∧
    t.frameMem = s.frameMem ∧ t.freeCount = s.freeCount) ?_ ?_ ?_ (by simp) ht
  · simp +contextual
  · simp +contextual
  · simp +contextual

theorem execWriteNodes_keeps {h : Hdr} {nodes : List NodeRecord} {s : State} {t : State} (ht : execWriteNodes h nodes s = .next t) :
    t.pending = s.pending ∧ t.timebase = s.timebase ∧ t.power = s.power ∧ t.resetCtl = s.resetCtl ∧ t.edits = s.edits ∧
    t.tracker = s.tracker ∧ t.exposure = s.exposure ∧ t.jobs = s.jobs ∧ t.engine = s.engine ∧ t.memPort = s.memPort ∧
    t.records = s.records ∧ t.frameMem = s.frameMem ∧ t.freeCount = s.freeCount := by
  refine request_invariant (P := fun t =>
    t.pending = s.pending ∧ t.timebase = s.timebase ∧ t.power = s.power ∧ t.resetCtl = s.resetCtl ∧ t.edits = s.edits ∧
    t.tracker = s.tracker ∧ t.exposure = s.exposure ∧ t.jobs = s.jobs ∧ t.engine = s.engine ∧ t.memPort = s.memPort ∧
    t.records = s.records ∧ t.frameMem = s.frameMem ∧ t.freeCount = s.freeCount) ?_ ?_ ?_ (by simp) ht
  · simp +contextual
  · simp +contextual
  · simp +contextual

theorem execWriteChroma_keeps {h : Hdr} {records : List ChromaRecord} {s : State} {t : State} (ht : execWriteChroma h records s = .next t) :
    t.pending = s.pending ∧ t.timebase = s.timebase ∧ t.power = s.power ∧ t.resetCtl = s.resetCtl ∧ t.edits = s.edits ∧
    t.tracker = s.tracker ∧ t.exposure = s.exposure ∧ t.jobs = s.jobs ∧ t.engine = s.engine ∧ t.memPort = s.memPort ∧
    t.records = s.records ∧ t.frameMem = s.frameMem ∧ t.freeCount = s.freeCount := by
  refine request_invariant (P := fun t =>
    t.pending = s.pending ∧ t.timebase = s.timebase ∧ t.power = s.power ∧ t.resetCtl = s.resetCtl ∧ t.edits = s.edits ∧
    t.tracker = s.tracker ∧ t.exposure = s.exposure ∧ t.jobs = s.jobs ∧ t.engine = s.engine ∧ t.memPort = s.memPort ∧
    t.records = s.records ∧ t.frameMem = s.frameMem ∧ t.freeCount = s.freeCount) ?_ ?_ ?_ (by simp) ht
  · simp +contextual
  · simp +contextual
  · simp +contextual

theorem execWriteCrop_keeps {h : Hdr} {scale : Nat} {s : State} {t : State} (ht : execWriteCrop h scale s = .next t) :
    t.pending = s.pending ∧ t.timebase = s.timebase ∧ t.power = s.power ∧ t.resetCtl = s.resetCtl ∧ t.edits = s.edits ∧
    t.tracker = s.tracker ∧ t.exposure = s.exposure ∧ t.jobs = s.jobs ∧ t.engine = s.engine ∧ t.memPort = s.memPort ∧
    t.records = s.records ∧ t.frameMem = s.frameMem ∧ t.freeCount = s.freeCount := by
  refine request_invariant (P := fun t =>
    t.pending = s.pending ∧ t.timebase = s.timebase ∧ t.power = s.power ∧ t.resetCtl = s.resetCtl ∧ t.edits = s.edits ∧
    t.tracker = s.tracker ∧ t.exposure = s.exposure ∧ t.jobs = s.jobs ∧ t.engine = s.engine ∧ t.memPort = s.memPort ∧
    t.records = s.records ∧ t.frameMem = s.frameMem ∧ t.freeCount = s.freeCount) ?_ ?_ ?_ (by simp) ht
  · simp +contextual
  · simp +contextual
  · simp +contextual

theorem execCommitEdit_keeps {h : Hdr} {s : State} {t : State} (ht : execCommitEdit h s = .next t) :
    t.pending = s.pending ∧ t.timebase = s.timebase ∧ t.power = s.power ∧ t.resetCtl = s.resetCtl ∧
    t.exposure = s.exposure ∧ t.jobs = s.jobs ∧ t.engine = s.engine ∧ t.memPort = s.memPort ∧ t.records = s.records ∧
    t.frameMem = s.frameMem ∧ t.freeCount = s.freeCount := by
  refine request_invariant (P := fun t =>
    t.pending = s.pending ∧ t.timebase = s.timebase ∧ t.power = s.power ∧ t.resetCtl = s.resetCtl ∧
    t.exposure = s.exposure ∧ t.jobs = s.jobs ∧ t.engine = s.engine ∧ t.memPort = s.memPort ∧ t.records = s.records ∧
    t.frameMem = s.frameMem ∧ t.freeCount = s.freeCount) ?_ ?_ ?_ (by simp) ht
  · simp +contextual
  · simp +contextual
  · simp +contextual

theorem execAbortEdit_keeps {h : Hdr} {s : State} {t : State} (ht : execAbortEdit h s = .next t) :
    t.pending = s.pending ∧ t.timebase = s.timebase ∧ t.power = s.power ∧ t.resetCtl = s.resetCtl ∧ t.tracker = s.tracker ∧
    t.exposure = s.exposure ∧ t.jobs = s.jobs ∧ t.engine = s.engine ∧ t.memPort = s.memPort ∧ t.records = s.records ∧
    t.frameMem = s.frameMem ∧ t.freeCount = s.freeCount := by
  refine request_invariant (P := fun t =>
    t.pending = s.pending ∧ t.timebase = s.timebase ∧ t.power = s.power ∧ t.resetCtl = s.resetCtl ∧ t.tracker = s.tracker ∧
    t.exposure = s.exposure ∧ t.jobs = s.jobs ∧ t.engine = s.engine ∧ t.memPort = s.memPort ∧ t.records = s.records ∧
    t.frameMem = s.frameMem ∧ t.freeCount = s.freeCount) ?_ ?_ ?_ (by simp) ht
  · simp +contextual
  · simp +contextual
  · simp +contextual

theorem execReadProfile_keeps {h : Hdr} {slot index : Nat} {s : State} {t : State} (ht : execReadProfile h slot index s = .next t) :
    t.pending = s.pending ∧ t.timebase = s.timebase ∧ t.power = s.power ∧ t.resetCtl = s.resetCtl ∧ t.store = s.store ∧
    t.edits = s.edits ∧ t.tracker = s.tracker ∧ t.exposure = s.exposure ∧ t.jobs = s.jobs ∧ t.engine = s.engine ∧
    t.memPort = s.memPort ∧ t.records = s.records ∧ t.frameMem = s.frameMem ∧ t.freeCount = s.freeCount := by
  refine request_invariant (P := fun t =>
    t.pending = s.pending ∧ t.timebase = s.timebase ∧ t.power = s.power ∧ t.resetCtl = s.resetCtl ∧ t.store = s.store ∧
    t.edits = s.edits ∧ t.tracker = s.tracker ∧ t.exposure = s.exposure ∧ t.jobs = s.jobs ∧ t.engine = s.engine ∧
    t.memPort = s.memPort ∧ t.records = s.records ∧ t.frameMem = s.frameMem ∧ t.freeCount = s.freeCount) ?_ ?_ ?_ (by simp) ht
  · simp +contextual
  · simp +contextual
  · simp +contextual

theorem execReadNode_keeps {h : Hdr} {slot index : Nat} {s : State} {t : State} (ht : execReadNode h slot index s = .next t) :
    t.pending = s.pending ∧ t.timebase = s.timebase ∧ t.power = s.power ∧ t.resetCtl = s.resetCtl ∧ t.store = s.store ∧
    t.edits = s.edits ∧ t.tracker = s.tracker ∧ t.exposure = s.exposure ∧ t.jobs = s.jobs ∧ t.engine = s.engine ∧
    t.memPort = s.memPort ∧ t.records = s.records ∧ t.frameMem = s.frameMem ∧ t.freeCount = s.freeCount := by
  refine request_invariant (P := fun t =>
    t.pending = s.pending ∧ t.timebase = s.timebase ∧ t.power = s.power ∧ t.resetCtl = s.resetCtl ∧ t.store = s.store ∧
    t.edits = s.edits ∧ t.tracker = s.tracker ∧ t.exposure = s.exposure ∧ t.jobs = s.jobs ∧ t.engine = s.engine ∧
    t.memPort = s.memPort ∧ t.records = s.records ∧ t.frameMem = s.frameMem ∧ t.freeCount = s.freeCount) ?_ ?_ ?_ (by simp) ht
  · simp +contextual
  · simp +contextual
  · simp +contextual

theorem execQueryStore_keeps {h : Hdr} {s : State} {t : State} (ht : execQueryStore h s = .next t) :
    t.pending = s.pending ∧ t.timebase = s.timebase ∧ t.power = s.power ∧ t.resetCtl = s.resetCtl ∧ t.store = s.store ∧
    t.edits = s.edits ∧ t.tracker = s.tracker ∧ t.exposure = s.exposure ∧ t.jobs = s.jobs ∧ t.engine = s.engine ∧
    t.memPort = s.memPort ∧ t.records = s.records ∧ t.frameMem = s.frameMem ∧ t.freeCount = s.freeCount := by
  refine request_invariant (P := fun t =>
    t.pending = s.pending ∧ t.timebase = s.timebase ∧ t.power = s.power ∧ t.resetCtl = s.resetCtl ∧ t.store = s.store ∧
    t.edits = s.edits ∧ t.tracker = s.tracker ∧ t.exposure = s.exposure ∧ t.jobs = s.jobs ∧ t.engine = s.engine ∧
    t.memPort = s.memPort ∧ t.records = s.records ∧ t.frameMem = s.frameMem ∧ t.freeCount = s.freeCount) ?_ ?_ ?_ (by simp) ht
  · simp +contextual
  · simp +contextual
  · simp +contextual

theorem execDeleteProfile_keeps {h : Hdr} {slot : Nat} {s : State} {t : State} (ht : execDeleteProfile h slot s = .next t) :
    t.pending = s.pending ∧ t.timebase = s.timebase ∧ t.power = s.power ∧ t.resetCtl = s.resetCtl ∧ t.edits = s.edits ∧
    t.exposure = s.exposure ∧ t.jobs = s.jobs ∧ t.engine = s.engine ∧ t.memPort = s.memPort ∧ t.records = s.records ∧
    t.frameMem = s.frameMem ∧ t.freeCount = s.freeCount := by
  refine request_invariant (P := fun t =>
    t.pending = s.pending ∧ t.timebase = s.timebase ∧ t.power = s.power ∧ t.resetCtl = s.resetCtl ∧ t.edits = s.edits ∧
    t.exposure = s.exposure ∧ t.jobs = s.jobs ∧ t.engine = s.engine ∧ t.memPort = s.memPort ∧ t.records = s.records ∧
    t.frameMem = s.frameMem ∧ t.freeCount = s.freeCount) ?_ ?_ ?_ (by simp) ht
  · simp +contextual
  · simp +contextual
  · simp +contextual

theorem execQueryExposure_keeps {h : Hdr} {seq : Nat} {s : State} {t : State} (ht : execQueryExposure h seq s = .next t) :
    t.pending = s.pending ∧ t.timebase = s.timebase ∧ t.power = s.power ∧ t.resetCtl = s.resetCtl ∧ t.store = s.store ∧
    t.edits = s.edits ∧ t.tracker = s.tracker ∧ t.exposure = s.exposure ∧ t.jobs = s.jobs ∧ t.engine = s.engine ∧
    t.memPort = s.memPort ∧ t.records = s.records ∧ t.frameMem = s.frameMem ∧ t.freeCount = s.freeCount := by
  refine request_invariant (P := fun t =>
    t.pending = s.pending ∧ t.timebase = s.timebase ∧ t.power = s.power ∧ t.resetCtl = s.resetCtl ∧ t.store = s.store ∧
    t.edits = s.edits ∧ t.tracker = s.tracker ∧ t.exposure = s.exposure ∧ t.jobs = s.jobs ∧ t.engine = s.engine ∧
    t.memPort = s.memPort ∧ t.records = s.records ∧ t.frameMem = s.frameMem ∧ t.freeCount = s.freeCount) ?_ ?_ ?_ (by simp) ht
  · simp +contextual
  · simp +contextual
  · simp +contextual

theorem execConfigureStream_keeps {h : Hdr} {stream : Field StreamId} {args : StreamArgs} {s : State} {t : State} (ht : execConfigureStream h stream args s = .next t) :
    t.pending = s.pending ∧ t.timebase = s.timebase ∧ t.power = s.power ∧ t.resetCtl = s.resetCtl ∧ t.store = s.store ∧
    t.edits = s.edits ∧ t.tracker = s.tracker ∧ t.exposure = s.exposure ∧ t.engine = s.engine ∧ t.memPort = s.memPort ∧
    t.records = s.records ∧ t.frameMem = s.frameMem ∧ t.freeCount = s.freeCount := by
  refine request_invariant (P := fun t =>
    t.pending = s.pending ∧ t.timebase = s.timebase ∧ t.power = s.power ∧ t.resetCtl = s.resetCtl ∧ t.store = s.store ∧
    t.edits = s.edits ∧ t.tracker = s.tracker ∧ t.exposure = s.exposure ∧ t.engine = s.engine ∧ t.memPort = s.memPort ∧
    t.records = s.records ∧ t.frameMem = s.frameMem ∧ t.freeCount = s.freeCount) ?_ ?_ ?_ (by simp) ht
  · simp +contextual
  · simp +contextual
  · simp +contextual

theorem execStartStream_keeps {h : Hdr} {stream : Field StreamId} {s : State} {t : State} (ht : execStartStream h stream s = .next t) :
    t.pending = s.pending ∧ t.timebase = s.timebase ∧ t.power = s.power ∧ t.resetCtl = s.resetCtl ∧ t.store = s.store ∧
    t.edits = s.edits ∧ t.tracker = s.tracker ∧ t.exposure = s.exposure ∧ t.engine = s.engine ∧ t.memPort = s.memPort ∧
    t.records = s.records ∧ t.frameMem = s.frameMem ∧ t.freeCount = s.freeCount := by
  refine request_invariant (P := fun t =>
    t.pending = s.pending ∧ t.timebase = s.timebase ∧ t.power = s.power ∧ t.resetCtl = s.resetCtl ∧ t.store = s.store ∧
    t.edits = s.edits ∧ t.tracker = s.tracker ∧ t.exposure = s.exposure ∧ t.engine = s.engine ∧ t.memPort = s.memPort ∧
    t.records = s.records ∧ t.frameMem = s.frameMem ∧ t.freeCount = s.freeCount) ?_ ?_ ?_ (by simp) ht
  · simp +contextual
  · simp +contextual
  · simp +contextual

theorem execStopStreamDrain_keeps {h : Hdr} {stream : Field StreamId} {badMode : Bool} {s : State} {t : State} (ht : execStopStreamDrain h stream badMode s = .next t) :
    t.pending = s.pending ∧ t.timebase = s.timebase ∧ t.power = s.power ∧ t.resetCtl = s.resetCtl ∧ t.store = s.store ∧
    t.edits = s.edits ∧ t.tracker = s.tracker ∧ t.exposure = s.exposure ∧ t.engine = s.engine ∧ t.memPort = s.memPort ∧
    t.records = s.records ∧ t.frameMem = s.frameMem ∧ t.freeCount = s.freeCount := by
  refine request_invariant (P := fun t =>
    t.pending = s.pending ∧ t.timebase = s.timebase ∧ t.power = s.power ∧ t.resetCtl = s.resetCtl ∧ t.store = s.store ∧
    t.edits = s.edits ∧ t.tracker = s.tracker ∧ t.exposure = s.exposure ∧ t.engine = s.engine ∧ t.memPort = s.memPort ∧
    t.records = s.records ∧ t.frameMem = s.frameMem ∧ t.freeCount = s.freeCount) ?_ ?_ ?_ (by simp) ht
  · simp +contextual
  · simp +contextual
  · simp +contextual

theorem execStopStreamFlush_keeps {h : Hdr} {stream : Field StreamId} {s : State} {t : State} (ht : execStopStreamFlush h stream s = .next t) :
    t.pending = s.pending ∧ t.timebase = s.timebase ∧ t.power = s.power ∧ t.resetCtl = s.resetCtl ∧ t.edits = s.edits ∧
    t.tracker = s.tracker ∧ t.exposure = s.exposure ∧ t.records = s.records ∧ t.frameMem = s.frameMem ∧
    t.freeCount = s.freeCount := by
  refine request_invariant (P := fun t =>
    t.pending = s.pending ∧ t.timebase = s.timebase ∧ t.power = s.power ∧ t.resetCtl = s.resetCtl ∧ t.edits = s.edits ∧
    t.tracker = s.tracker ∧ t.exposure = s.exposure ∧ t.records = s.records ∧ t.frameMem = s.frameMem ∧
    t.freeCount = s.freeCount) ?_ ?_ ?_ (by simp) ht
  · simp +contextual
  · simp +contextual
  · simp +contextual

theorem execQueryStream_keeps {h : Hdr} {stream : Field StreamId} {s : State} {t : State} (ht : execQueryStream h stream s = .next t) :
    t.pending = s.pending ∧ t.timebase = s.timebase ∧ t.power = s.power ∧ t.resetCtl = s.resetCtl ∧ t.store = s.store ∧
    t.edits = s.edits ∧ t.tracker = s.tracker ∧ t.exposure = s.exposure ∧ t.jobs = s.jobs ∧ t.engine = s.engine ∧
    t.memPort = s.memPort ∧ t.records = s.records ∧ t.frameMem = s.frameMem ∧ t.freeCount = s.freeCount := by
  refine request_invariant (P := fun t =>
    t.pending = s.pending ∧ t.timebase = s.timebase ∧ t.power = s.power ∧ t.resetCtl = s.resetCtl ∧ t.store = s.store ∧
    t.edits = s.edits ∧ t.tracker = s.tracker ∧ t.exposure = s.exposure ∧ t.jobs = s.jobs ∧ t.engine = s.engine ∧
    t.memPort = s.memPort ∧ t.records = s.records ∧ t.frameMem = s.frameMem ∧ t.freeCount = s.freeCount) ?_ ?_ ?_ (by simp) ht
  · simp +contextual
  · simp +contextual
  · simp +contextual

theorem execSubmitFrame_keeps {h : Hdr} {stream : Field StreamId} {seq : Nat} {source dest : Descriptor} {s : State} {t : State} (ht : execSubmitFrame h stream seq source dest s = .next t) :
    t.pending = s.pending ∧ t.timebase = s.timebase ∧ t.resetCtl = s.resetCtl ∧ t.edits = s.edits ∧ t.tracker = s.tracker ∧
    t.exposure = s.exposure ∧ t.records = s.records ∧ t.frameMem = s.frameMem ∧ t.freeCount = s.freeCount := by
  refine request_invariant (P := fun t =>
    t.pending = s.pending ∧ t.timebase = s.timebase ∧ t.resetCtl = s.resetCtl ∧ t.edits = s.edits ∧ t.tracker = s.tracker ∧
    t.exposure = s.exposure ∧ t.records = s.records ∧ t.frameMem = s.frameMem ∧ t.freeCount = s.freeCount) ?_ ?_ ?_ (by simp) ht
  · simp +contextual
  · simp +contextual
  · simp +contextual

theorem execQueryJob_keeps {h : Hdr} {number : Nat} {s : State} {t : State} (ht : execQueryJob h number s = .next t) :
    t.pending = s.pending ∧ t.timebase = s.timebase ∧ t.power = s.power ∧ t.resetCtl = s.resetCtl ∧ t.store = s.store ∧
    t.edits = s.edits ∧ t.tracker = s.tracker ∧ t.exposure = s.exposure ∧ t.jobs = s.jobs ∧ t.engine = s.engine ∧
    t.memPort = s.memPort ∧ t.records = s.records ∧ t.frameMem = s.frameMem ∧ t.freeCount = s.freeCount := by
  refine request_invariant (P := fun t =>
    t.pending = s.pending ∧ t.timebase = s.timebase ∧ t.power = s.power ∧ t.resetCtl = s.resetCtl ∧ t.store = s.store ∧
    t.edits = s.edits ∧ t.tracker = s.tracker ∧ t.exposure = s.exposure ∧ t.jobs = s.jobs ∧ t.engine = s.engine ∧
    t.memPort = s.memPort ∧ t.records = s.records ∧ t.frameMem = s.frameMem ∧ t.freeCount = s.freeCount) ?_ ?_ ?_ (by simp) ht
  · simp +contextual
  · simp +contextual
  · simp +contextual

theorem execCancelJob_keeps {h : Hdr} {number : Nat} {s : State} {t : State} (ht : execCancelJob h number s = .next t) :
    t.pending = s.pending ∧ t.timebase = s.timebase ∧ t.power = s.power ∧ t.resetCtl = s.resetCtl ∧ t.edits = s.edits ∧
    t.tracker = s.tracker ∧ t.exposure = s.exposure ∧ t.records = s.records ∧ t.frameMem = s.frameMem ∧
    t.freeCount = s.freeCount := by
  refine request_invariant (P := fun t =>
    t.pending = s.pending ∧ t.timebase = s.timebase ∧ t.power = s.power ∧ t.resetCtl = s.resetCtl ∧ t.edits = s.edits ∧
    t.tracker = s.tracker ∧ t.exposure = s.exposure ∧ t.records = s.records ∧ t.frameMem = s.frameMem ∧
    t.freeCount = s.freeCount) ?_ ?_ ?_ (by simp) ht
  · simp +contextual
  · simp +contextual
  · simp +contextual

theorem execSetWindow_keeps {h : Hdr} {base size : Nat} {s : State} {t : State} (ht : execSetWindow h base size s = .next t) :
    t.pending = s.pending ∧ t.timebase = s.timebase ∧ t.power = s.power ∧ t.resetCtl = s.resetCtl ∧ t.store = s.store ∧
    t.edits = s.edits ∧ t.tracker = s.tracker ∧ t.exposure = s.exposure ∧ t.jobs = s.jobs ∧ t.engine = s.engine ∧
    t.records = s.records ∧ t.frameMem = s.frameMem ∧ t.freeCount = s.freeCount := by
  refine request_invariant (P := fun t =>
    t.pending = s.pending ∧ t.timebase = s.timebase ∧ t.power = s.power ∧ t.resetCtl = s.resetCtl ∧ t.store = s.store ∧
    t.edits = s.edits ∧ t.tracker = s.tracker ∧ t.exposure = s.exposure ∧ t.jobs = s.jobs ∧ t.engine = s.engine ∧
    t.records = s.records ∧ t.frameMem = s.frameMem ∧ t.freeCount = s.freeCount) ?_ ?_ ?_ (by simp) ht
  · simp +contextual
  · simp +contextual
  · simp +contextual

theorem execGrantMemory_keeps {h : Hdr} {s : State} {t : State} (ht : execGrantMemory h s = .next t) :
    t.pending = s.pending ∧ t.timebase = s.timebase ∧ t.power = s.power ∧ t.resetCtl = s.resetCtl ∧ t.edits = s.edits ∧
    t.tracker = s.tracker ∧ t.exposure = s.exposure ∧ t.records = s.records ∧ t.frameMem = s.frameMem ∧
    t.freeCount = s.freeCount := by
  refine request_invariant (P := fun t =>
    t.pending = s.pending ∧ t.timebase = s.timebase ∧ t.power = s.power ∧ t.resetCtl = s.resetCtl ∧ t.edits = s.edits ∧
    t.tracker = s.tracker ∧ t.exposure = s.exposure ∧ t.records = s.records ∧ t.frameMem = s.frameMem ∧
    t.freeCount = s.freeCount) ?_ ?_ ?_ (by simp) ht
  · simp +contextual
  · simp +contextual
  · simp +contextual

theorem execWithdrawMemory_keeps {h : Hdr} {s : State} {t : State} (ht : execWithdrawMemory h s = .next t) :
    t.pending = s.pending ∧ t.timebase = s.timebase ∧ t.power = s.power ∧ t.resetCtl = s.resetCtl ∧ t.store = s.store ∧
    t.edits = s.edits ∧ t.tracker = s.tracker ∧ t.exposure = s.exposure ∧ t.jobs = s.jobs ∧ t.engine = s.engine ∧
    t.records = s.records ∧ t.frameMem = s.frameMem ∧ t.freeCount = s.freeCount := by
  refine request_invariant (P := fun t =>
    t.pending = s.pending ∧ t.timebase = s.timebase ∧ t.power = s.power ∧ t.resetCtl = s.resetCtl ∧ t.store = s.store ∧
    t.edits = s.edits ∧ t.tracker = s.tracker ∧ t.exposure = s.exposure ∧ t.jobs = s.jobs ∧ t.engine = s.engine ∧
    t.records = s.records ∧ t.frameMem = s.frameMem ∧ t.freeCount = s.freeCount) ?_ ?_ ?_ (by simp) ht
  · simp +contextual
  · simp +contextual
  · simp +contextual

theorem execSetPauseLimit_keeps {h : Hdr} {limit : Nat} {s : State} {t : State} (ht : execSetPauseLimit h limit s = .next t) :
    t.pending = s.pending ∧ t.timebase = s.timebase ∧ t.power = s.power ∧ t.resetCtl = s.resetCtl ∧ t.store = s.store ∧
    t.edits = s.edits ∧ t.tracker = s.tracker ∧ t.exposure = s.exposure ∧ t.jobs = s.jobs ∧ t.engine = s.engine ∧
    t.records = s.records ∧ t.frameMem = s.frameMem ∧ t.freeCount = s.freeCount := by
  refine request_invariant (P := fun t =>
    t.pending = s.pending ∧ t.timebase = s.timebase ∧ t.power = s.power ∧ t.resetCtl = s.resetCtl ∧ t.store = s.store ∧
    t.edits = s.edits ∧ t.tracker = s.tracker ∧ t.exposure = s.exposure ∧ t.jobs = s.jobs ∧ t.engine = s.engine ∧
    t.records = s.records ∧ t.frameMem = s.frameMem ∧ t.freeCount = s.freeCount) ?_ ?_ ?_ (by simp) ht
  · simp +contextual
  · simp +contextual
  · simp +contextual

theorem execQueryMemory_keeps {h : Hdr} {s : State} {t : State} (ht : execQueryMemory h s = .next t) :
    t.pending = s.pending ∧ t.timebase = s.timebase ∧ t.power = s.power ∧ t.resetCtl = s.resetCtl ∧ t.store = s.store ∧
    t.edits = s.edits ∧ t.tracker = s.tracker ∧ t.exposure = s.exposure ∧ t.jobs = s.jobs ∧ t.engine = s.engine ∧
    t.memPort = s.memPort ∧ t.records = s.records ∧ t.frameMem = s.frameMem ∧ t.freeCount = s.freeCount := by
  refine request_invariant (P := fun t =>
    t.pending = s.pending ∧ t.timebase = s.timebase ∧ t.power = s.power ∧ t.resetCtl = s.resetCtl ∧ t.store = s.store ∧
    t.edits = s.edits ∧ t.tracker = s.tracker ∧ t.exposure = s.exposure ∧ t.jobs = s.jobs ∧ t.engine = s.engine ∧
    t.memPort = s.memPort ∧ t.records = s.records ∧ t.frameMem = s.frameMem ∧ t.freeCount = s.freeCount) ?_ ?_ ?_ (by simp) ht
  · simp +contextual
  · simp +contextual
  · simp +contextual

theorem execReadRecords_keeps {h : Hdr} {start count : Nat} {s : State} {t : State} (ht : execReadRecords h start count s = .next t) :
    t.pending = s.pending ∧ t.timebase = s.timebase ∧ t.power = s.power ∧ t.resetCtl = s.resetCtl ∧ t.store = s.store ∧
    t.edits = s.edits ∧ t.tracker = s.tracker ∧ t.exposure = s.exposure ∧ t.jobs = s.jobs ∧ t.engine = s.engine ∧
    t.memPort = s.memPort ∧ t.records = s.records ∧ t.frameMem = s.frameMem ∧ t.freeCount = s.freeCount := by
  refine request_invariant (P := fun t =>
    t.pending = s.pending ∧ t.timebase = s.timebase ∧ t.power = s.power ∧ t.resetCtl = s.resetCtl ∧ t.store = s.store ∧
    t.edits = s.edits ∧ t.tracker = s.tracker ∧ t.exposure = s.exposure ∧ t.jobs = s.jobs ∧ t.engine = s.engine ∧
    t.memPort = s.memPort ∧ t.records = s.records ∧ t.frameMem = s.frameMem ∧ t.freeCount = s.freeCount) ?_ ?_ ?_ (by simp) ht
  · simp +contextual
  · simp +contextual
  · simp +contextual

theorem execSubmitUrgent_keeps {h : Hdr} {args : UrgentArgs} {s : State} {t : State} (ht : execSubmitUrgent h args s = .next t) :
    t.pending = s.pending ∧ t.timebase = s.timebase ∧ t.resetCtl = s.resetCtl ∧ t.edits = s.edits ∧ t.tracker = s.tracker ∧
    t.exposure = s.exposure ∧ t.records = s.records ∧ t.frameMem = s.frameMem ∧ t.freeCount = s.freeCount := by
  refine request_invariant (P := fun t =>
    t.pending = s.pending ∧ t.timebase = s.timebase ∧ t.resetCtl = s.resetCtl ∧ t.edits = s.edits ∧ t.tracker = s.tracker ∧
    t.exposure = s.exposure ∧ t.records = s.records ∧ t.frameMem = s.frameMem ∧ t.freeCount = s.freeCount) ?_ ?_ ?_ (by simp) ht
  · simp +contextual
  · simp +contextual
  · simp +contextual

theorem execStandby_keeps {h : Hdr} {s : State} {t : State} (ht : execStandby h s = .next t) :
    t.pending = s.pending ∧ t.timebase = s.timebase ∧ t.resetCtl = s.resetCtl ∧ t.store = s.store ∧ t.edits = s.edits ∧
    t.tracker = s.tracker ∧ t.exposure = s.exposure ∧ t.jobs = s.jobs ∧ t.engine = s.engine ∧ t.memPort = s.memPort ∧
    t.records = s.records ∧ t.frameMem = s.frameMem ∧ t.freeCount = s.freeCount := by
  refine request_invariant (P := fun t =>
    t.pending = s.pending ∧ t.timebase = s.timebase ∧ t.resetCtl = s.resetCtl ∧ t.store = s.store ∧ t.edits = s.edits ∧
    t.tracker = s.tracker ∧ t.exposure = s.exposure ∧ t.jobs = s.jobs ∧ t.engine = s.engine ∧ t.memPort = s.memPort ∧
    t.records = s.records ∧ t.frameMem = s.frameMem ∧ t.freeCount = s.freeCount) ?_ ?_ ?_ (by simp) ht
  · simp +contextual
  · simp +contextual
  · simp +contextual

theorem execWake_keeps {h : Hdr} {s : State} {t : State} (ht : execWake h s = .next t) :
    t.pending = s.pending ∧ t.timebase = s.timebase ∧ t.resetCtl = s.resetCtl ∧ t.store = s.store ∧ t.edits = s.edits ∧
    t.tracker = s.tracker ∧ t.exposure = s.exposure ∧ t.jobs = s.jobs ∧ t.engine = s.engine ∧ t.memPort = s.memPort ∧
    t.records = s.records ∧ t.frameMem = s.frameMem ∧ t.freeCount = s.freeCount := by
  refine request_invariant (P := fun t =>
    t.pending = s.pending ∧ t.timebase = s.timebase ∧ t.resetCtl = s.resetCtl ∧ t.store = s.store ∧ t.edits = s.edits ∧
    t.tracker = s.tracker ∧ t.exposure = s.exposure ∧ t.jobs = s.jobs ∧ t.engine = s.engine ∧ t.memPort = s.memPort ∧
    t.records = s.records ∧ t.frameMem = s.frameMem ∧ t.freeCount = s.freeCount) ?_ ?_ ?_ (by simp) ht
  · simp +contextual
  · simp +contextual
  · simp +contextual

theorem execFrameError_keeps {x : Transaction} {bytes : List Byte} {s : State} {t : State} (ht : execFrameError x bytes s = .next t) :
    t.pending = s.pending ∧ t.timebase = s.timebase ∧ t.power = s.power ∧ t.resetCtl = s.resetCtl ∧ t.store = s.store ∧
    t.edits = s.edits ∧ t.tracker = s.tracker ∧ t.exposure = s.exposure ∧ t.jobs = s.jobs ∧ t.engine = s.engine ∧
    t.memPort = s.memPort ∧ t.records = s.records ∧ t.frameMem = s.frameMem ∧ t.freeCount = s.freeCount := by
  unfold execFrameError at ht
  repeat' split at ht
  all_goals first | cases ht | skip
  all_goals first
    | (simp; done)
    | exact takeFrame_invariant (P := fun t =>
    t.pending = s.pending ∧ t.timebase = s.timebase ∧ t.power = s.power ∧ t.resetCtl = s.resetCtl ∧ t.store = s.store ∧
    t.edits = s.edits ∧ t.tracker = s.tracker ∧ t.exposure = s.exposure ∧ t.jobs = s.jobs ∧ t.engine = s.engine ∧
    t.memPort = s.memPort ∧ t.records = s.records ∧ t.frameMem = s.frameMem ∧ t.freeCount = s.freeCount) (by simp +contextual) (by simp +contextual) (by simp +contextual) (by simp)

theorem execUnknownKind_keeps {x : Transaction} {kind tag : Byte} {s : State} {t : State} (ht : execUnknownKind x kind tag s = .next t) :
    t.pending = s.pending ∧ t.timebase = s.timebase ∧ t.power = s.power ∧ t.resetCtl = s.resetCtl ∧ t.store = s.store ∧
    t.edits = s.edits ∧ t.tracker = s.tracker ∧ t.exposure = s.exposure ∧ t.jobs = s.jobs ∧ t.engine = s.engine ∧
    t.memPort = s.memPort ∧ t.records = s.records ∧ t.frameMem = s.frameMem ∧ t.freeCount = s.freeCount := by
  unfold execUnknownKind at ht
  repeat' split at ht
  all_goals first | cases ht | skip
  all_goals first
    | (simp; done)
    | exact takeFrame_invariant (P := fun t =>
    t.pending = s.pending ∧ t.timebase = s.timebase ∧ t.power = s.power ∧ t.resetCtl = s.resetCtl ∧ t.store = s.store ∧
    t.edits = s.edits ∧ t.tracker = s.tracker ∧ t.exposure = s.exposure ∧ t.jobs = s.jobs ∧ t.engine = s.engine ∧
    t.memPort = s.memPort ∧ t.records = s.records ∧ t.frameMem = s.frameMem ∧ t.freeCount = s.freeCount) (by simp +contextual) (by simp +contextual) (by simp +contextual) (by simp)

theorem execWriteTransactionDiscarded_keeps {x : Transaction} {s : State} {t : State} (ht : execWriteTransactionDiscarded x s = .next t) :
    t.pending = s.pending ∧ t.timebase = s.timebase ∧ t.power = s.power ∧ t.resetCtl = s.resetCtl ∧ t.store = s.store ∧
    t.edits = s.edits ∧ t.tracker = s.tracker ∧ t.exposure = s.exposure ∧ t.jobs = s.jobs ∧ t.engine = s.engine ∧
    t.memPort = s.memPort ∧ t.records = s.records ∧ t.frameMem = s.frameMem ∧ t.freeCount = s.freeCount := by
  unfold execWriteTransactionDiscarded at ht
  try dsimp only at ht
  repeat' split at ht
  all_goals first | cases ht | skip
  all_goals simp

theorem execInvalidOpeningByte_keeps {x : Transaction} {opening : Byte} {s : State} {t : State} (ht : execInvalidOpeningByte x opening s = .next t) :
    t.pending = s.pending ∧ t.timebase = s.timebase ∧ t.power = s.power ∧ t.resetCtl = s.resetCtl ∧ t.store = s.store ∧
    t.edits = s.edits ∧ t.tracker = s.tracker ∧ t.exposure = s.exposure ∧ t.jobs = s.jobs ∧ t.engine = s.engine ∧
    t.memPort = s.memPort ∧ t.records = s.records ∧ t.frameMem = s.frameMem ∧ t.freeCount = s.freeCount := by
  unfold execInvalidOpeningByte at ht
  try dsimp only at ht
  repeat' split at ht
  all_goals first | cases ht | skip
  all_goals simp

theorem execReadTransaction_keeps {x : Transaction} {extent : ReadExtent} {s : State} {t : State} (ht : execReadTransaction x extent s = .next t) :
    t.pending = s.pending := by
  unfold execReadTransaction at ht
  try dsimp only at ht
  repeat' split at ht
  all_goals first | cases ht | skip
  all_goals simp

theorem execTriggerRisingEdge_keeps {line : TriggerLine} {s : State} {t : State} (ht : execTriggerRisingEdge line s = .next t) :
    t.pending = s.pending ∧ t.timebase = s.timebase ∧ t.power = s.power ∧ t.resetCtl = s.resetCtl ∧ t.store = s.store ∧
    t.edits = s.edits ∧ t.tracker = s.tracker ∧ t.jobs = s.jobs ∧ t.engine = s.engine ∧ t.memPort = s.memPort ∧
    t.records = s.records ∧ t.ports = s.ports ∧ t.frameMem = s.frameMem ∧ t.wire = s.wire ∧ t.freeCount = s.freeCount := by
  unfold execTriggerRisingEdge at ht
  try dsimp only at ht
  repeat' split at ht
  all_goals first | cases ht | skip
  all_goals simp

theorem execTriggerFallingEdge_keeps {line : TriggerLine} {s : State} {t : State} (ht : execTriggerFallingEdge line s = .next t) :
    t.pending = s.pending ∧ t.timebase = s.timebase ∧ t.power = s.power ∧ t.resetCtl = s.resetCtl ∧ t.store = s.store ∧
    t.edits = s.edits ∧ t.tracker = s.tracker ∧ t.jobs = s.jobs ∧ t.engine = s.engine ∧ t.memPort = s.memPort ∧
    t.records = s.records ∧ t.ports = s.ports ∧ t.frameMem = s.frameMem ∧ t.wire = s.wire ∧ t.freeCount = s.freeCount := by
  unfold execTriggerFallingEdge at ht
  try dsimp only at ht
  repeat' split at ht
  all_goals first | cases ht | skip
  all_goals simp

theorem execExps_keeps {s : State} {t : State} (ht : execExps s = .next t) :
    t.pending = s.pending ∧ t.timebase = s.timebase ∧ t.resetCtl = s.resetCtl ∧ t.edits = s.edits ∧ t.tracker = s.tracker ∧
    t.records = s.records ∧ t.frameMem = s.frameMem ∧ t.wire = s.wire ∧ t.freeCount = s.freeCount := by
  unfold execExps at ht
  try dsimp only at ht
  repeat' split at ht
  all_goals first | cases ht | skip
  all_goals simp

theorem execExpe_keeps {s : State} {t : State} (ht : execExpe s = .next t) :
    t.pending = s.pending ∧ t.timebase = s.timebase ∧ t.power = s.power ∧ t.resetCtl = s.resetCtl ∧ t.edits = s.edits ∧
    t.tracker = s.tracker ∧ t.records = s.records ∧ t.frameMem = s.frameMem ∧ t.wire = s.wire ∧
    t.freeCount = s.freeCount := by
  unfold execExpe at ht
  try dsimp only at ht
  repeat' split at ht
  all_goals first | cases ht | skip
  all_goals simp

theorem execOpenLimitExpiry_keeps {s : State} {t : State} (ht : execOpenLimitExpiry s = .next t) :
    t.pending = s.pending ∧ t.timebase = s.timebase ∧ t.power = s.power ∧ t.resetCtl = s.resetCtl ∧ t.store = s.store ∧
    t.edits = s.edits ∧ t.tracker = s.tracker ∧ t.jobs = s.jobs ∧ t.engine = s.engine ∧ t.memPort = s.memPort ∧
    t.records = s.records ∧ t.ports = s.ports ∧ t.frameMem = s.frameMem ∧ t.wire = s.wire ∧ t.freeCount = s.freeCount := by
  unfold execOpenLimitExpiry at ht
  try dsimp only at ht
  repeat' split at ht
  all_goals first | cases ht | skip
  all_goals simp

theorem execResolveDeadlineExpiry_keeps {seq : Nat} {s : State} {t : State} (ht : execResolveDeadlineExpiry seq s = .next t) :
    t.pending = s.pending ∧ t.timebase = s.timebase ∧ t.power = s.power ∧ t.resetCtl = s.resetCtl ∧ t.edits = s.edits ∧
    t.tracker = s.tracker ∧ t.records = s.records ∧ t.frameMem = s.frameMem ∧ t.wire = s.wire ∧
    t.freeCount = s.freeCount := by
  unfold execResolveDeadlineExpiry at ht
  try dsimp only at ht
  repeat' split at ht
  all_goals first | cases ht | skip
  all_goals simp

theorem execPauseTimerExpiry_keeps {s : State} {t : State} (ht : execPauseTimerExpiry s = .next t) :
    t.pending = s.pending ∧ t.timebase = s.timebase ∧ t.power = s.power ∧ t.resetCtl = s.resetCtl ∧ t.edits = s.edits ∧
    t.tracker = s.tracker ∧ t.exposure = s.exposure ∧ t.records = s.records ∧ t.frameMem = s.frameMem ∧ t.wire = s.wire ∧
    t.freeCount = s.freeCount := by
  unfold execPauseTimerExpiry at ht
  try dsimp only at ht
  repeat' split at ht
  all_goals first | cases ht | skip
  all_goals simp

theorem execWakeTimerExpiry_keeps {s : State} {t : State} (ht : execWakeTimerExpiry s = .next t) :
    t.pending = s.pending ∧ t.timebase = s.timebase ∧ t.resetCtl = s.resetCtl ∧ t.edits = s.edits ∧ t.tracker = s.tracker ∧
    t.exposure = s.exposure ∧ t.records = s.records ∧ t.frameMem = s.frameMem ∧ t.wire = s.wire ∧
    t.freeCount = s.freeCount := by
  unfold execWakeTimerExpiry at ht
  try dsimp only at ht
  repeat' split at ht
  all_goals first | cases ht | skip
  all_goals simp

theorem execReportAged_keeps {s : State} {t : State} (ht : execReportAged s = .next t) :
    t.pending = s.pending ∧ t.timebase = s.timebase ∧ t.power = s.power ∧ t.resetCtl = s.resetCtl ∧ t.store = s.store ∧
    t.edits = s.edits ∧ t.exposure = s.exposure ∧ t.jobs = s.jobs ∧ t.engine = s.engine ∧ t.memPort = s.memPort ∧
    t.records = s.records ∧ t.ports = s.ports ∧ t.frameMem = s.frameMem ∧ t.wire = s.wire ∧ t.freeCount = s.freeCount := by
  unfold execReportAged at ht
  try dsimp only at ht
  repeat' split at ht
  all_goals first | cases ht | skip
  all_goals simp

theorem execBandBoundary_keeps {s : State} {t : State} (ht : execBandBoundary s = .next t) :
    t.pending = s.pending ∧ t.timebase = s.timebase ∧ t.power = s.power ∧ t.resetCtl = s.resetCtl ∧ t.edits = s.edits ∧
    t.tracker = s.tracker ∧ t.exposure = s.exposure ∧ t.wire = s.wire ∧ t.freeCount = s.freeCount := by
  unfold execBandBoundary at ht
  try dsimp only at ht
  repeat' split at ht
  all_goals first | cases ht | skip
  all_goals simp

theorem execBusError_keeps {transfer : BusTransfer} {s : State} {t : State} (ht : execBusError transfer s = .next t) :
    t.pending = s.pending ∧ t.timebase = s.timebase ∧ t.power = s.power ∧ t.resetCtl = s.resetCtl ∧ t.edits = s.edits ∧
    t.tracker = s.tracker ∧ t.exposure = s.exposure ∧ t.records = s.records ∧ t.wire = s.wire ∧
    t.freeCount = s.freeCount := by
  unfold execBusError at ht
  try dsimp only at ht
  repeat' split at ht
  all_goals first | cases ht | skip
  all_goals simp

theorem execReset_keeps {s : State} {t : State} (ht : execReset s = .next t) :
    t.pending = s.pending ∧ t.wire = s.wire := by
  unfold execReset at ht
  try dsimp only at ht
  repeat' split at ht
  all_goals first | cases ht | skip
  all_goals simp

theorem execResetEnd_keeps {s : State} {t : State} (ht : execResetEnd s = .next t) :
    t.pending = s.pending ∧ t.frameMem = s.frameMem ∧ t.wire = s.wire ∧ t.freeCount = s.freeCount := by
  unfold execResetEnd at ht
  try dsimp only at ht
  repeat' split at ht
  all_goals first | cases ht | skip
  all_goals simp

end Sys2Proof.Machine
end

