-- ==== Sys2Proof/Laws/Engine.lean ====
section
/-! SUPPORT. What finding, changing and ending a job give, and what the engine's start, restoration and refill give. -/

namespace Sys2Proof.Machine

/-! ### Entries -/

theorem findJob_number {s : State} {n : Nat} {j : Job} (h : s.findJob n = some j) : j.number = n := by
  have := List.find?_some h
  simpa using this

theorem findJob_mem {s : State} {n : Nat} {j : Job} (h : s.findJob n = some j) : j ∈ s.jobs.table := List.mem_of_find?_eq_some h

/-- R107: with distinct numbers the entry found under a job's number is the job. -/
theorem findJob_of_mem {s : State} (hd : s.numbersDistinct) {j : Job} (h : j ∈ s.jobs.table) : s.findJob j.number = some j := by
  unfold State.numbersDistinct at hd
  unfold State.findJob
  induction hl : s.jobs.table generalizing s with
  | nil =>
    rw [hl] at h
    cases h
  | cons a l ih =>
    rw [hl] at h hd
    rw [List.map_cons, List.nodup_cons] at hd
    rw [List.find?_cons]
    rcases List.mem_cons.1 h with rfl | h
    · simp
    · have hne : a.number ≠ j.number := fun e => hd.1 (List.mem_map.2 ⟨j, h, e.symm⟩)
      simp only [hne, decide_false]
      have := @ih (s.withTable l) (by simpa [State.withTable, State.withJobs] using hd.2)
        (by simpa [State.withTable, State.withJobs] using h) rfl
      exact this

/-- A change of one entry is found under its number. -/
theorem findJob_updateJob {s : State} {n : Nat} {j : Job} (f : Job → Job) (h : s.findJob n = some j)
    (hf : ∀ x, (f x).number = x.number) : (s.updateJob n f).findJob n = some (f j) := by
  unfold State.findJob State.updateJob State.withTable State.withJobs
  unfold State.findJob at h
  simp only
  revert h
  induction s.jobs.table with
  | nil =>
    intro h
    cases h
  | cons a l ih =>
    intro h
    rw [List.map_cons, List.find?_cons]
    rw [List.find?_cons] at h
    by_cases ha : a.number = n
    · simp only [ha, decide_true, Option.some.injEq] at h
      subst h
      simp [ha, hf]
    · simp only [ha, decide_false] at h
      simpa [ha] using ih h

theorem findJob_updateJob_other {s : State} {n m : Nat} (f : Job → Job) (hm : m ≠ n) (hf : ∀ x, (f x).number = x.number) :
    (s.updateJob n f).findJob m = s.findJob m := by
  unfold State.findJob State.updateJob State.withTable State.withJobs
  simp only
  induction s.jobs.table with
  | nil => rfl
  | cons a l ih =>
    rw [List.map_cons, List.find?_cons, List.find?_cons]
    by_cases ha : a.number = n
    · have h1 : ¬ (f a).number = m := by rw [hf, ha]; exact fun e => hm e.symm
      have h2 : ¬ a.number = m := by rw [ha]; exact fun e => hm e.symm
      simp only [ha, if_true, h1, decide_false, show ¬ n = m from fun e => hm e.symm]
      exact ih
    · simp only [ha, if_false]
      split
      · rfl
      · exact ih

/-- A change that keeps the numbers keeps them distinct. -/
theorem numbers_updateJob (s : State) (n : Nat) (f : Job → Job) (hf : ∀ x, (f x).number = x.number) :
    (s.updateJob n f).jobs.table.map Job.number = s.jobs.table.map Job.number := by
  unfold State.updateJob State.withTable State.withJobs
  simp only [List.map_map]
  refine List.map_congr_left fun a _ => ?_
  simp only [Function.comp]
  split
  · exact hf a
  · rfl

/-! ### The end of a job (R116, R117) -/

theorem endJob_none {s : State} {n : Nat} (h : s.findJob n = none) (r : JobResult) : s.endJob n r = s := by
  unfold State.endJob
  rw [h]

/-- R116 step 6, R135: the context that holds the job is emptied, and its pause timer stops. -/
theorem releaseContext_engine (s : State) (n : Nat) :
    (s.releaseContext n).engine = {
      now := if s.engine.now.job = some n then .idle else s.engine.now
      shadow := if s.engine.shadow.map Context.job = some n then none else s.engine.shadow } ∧
    (s.releaseContext n).memPort = { s.memPort with
      pauseTimer := if s.memPort.pauseTimer.map PauseTimer.job = some n then none else s.memPort.pauseTimer } ∧
    (s.releaseContext n).jobs = s.jobs := by
  unfold State.releaseContext
  simp only [State.withEngine, State.withMemPort]
  by_cases hp : s.memPort.pauseTimer.map PauseTimer.job = some n
  · simp only [hp, if_true]
    simp
  · simp only [hp, if_false]
    simp

theorem closeEntry_jobs (s : State) (j : Job) (r : JobResult) :
    (s.closeEntry j r).jobs = (s.updateJob j.number fun x => { x with state := .ended r, cancelPending := false }).jobs := by
  unfold State.closeEntry
  simp only
  split <;> simp [State.addRecord]

theorem announceEnd_table (s : State) (j : Job) (r : JobResult) :
    (s.announceEnd j r).jobs.table =
      if j.suppressed then s.jobs.table.filter fun x => decide (x.number ≠ j.number) else s.jobs.table := by
  unfold State.announceEnd
  split
  · rfl
  · simp

theorem drainHalt_table (s : State) (i : StreamId) : (s.drainHalt i).jobs.table = s.jobs.table := by
  unfold State.drainHalt State.streamTo State.setStream
  split
  · cases i <;> rfl
  · rfl

/-- R116, R117: the table, the engine and the pause timer after the end of a job. -/
theorem endJob_cases {s : State} {n : Nat} {j : Job} (h : s.findJob n = some j) (r : JobResult) :
    let ended := s.jobs.table.map fun x => if x.number = n then { x with state := .ended r, cancelPending := false } else x
    (s.endJob n r).jobs.table = (if j.suppressed then ended.filter fun x => decide (x.number ≠ n) else ended) ∧
    (s.endJob n r).engine = {
      now := if s.engine.now.job = some n then .idle else s.engine.now
      shadow := if s.engine.shadow.map Context.job = some n then none else s.engine.shadow } ∧
    (s.endJob n r).memPort = { s.memPort with
      pauseTimer := if s.memPort.pauseTimer.map PauseTimer.job = some n then none else s.memPort.pauseTimer } := by
  have hn := findJob_number h
  subst hn
  have ht : ∀ t : State, t.jobs.table = ((s.closeEntry j r).announceEnd j r).jobs.table →
      (t.releaseContext j.number).jobs.table = ((s.closeEntry j r).announceEnd j r).jobs.table := fun t e => by
    rw [(releaseContext_engine t j.number).2.2, e]
  unfold State.endJob
  rw [h]
  simp only
  refine ⟨?_, ?_, ?_⟩
  · rw [ht _ (by cases j.cls.stream <;> simp [drainHalt_table]), announceEnd_table, closeEntry_jobs]
    rfl
  · rw [(releaseContext_engine _ _).1]
    cases j.cls.stream <;> simp
  · rw [(releaseContext_engine _ _).2.1]
    cases j.cls.stream <;> simp

/-! ### The engine (R123 to R125, R132) -/

theorem refill_busy (fuel : Nat) (s : State) (h : s.engine.now ≠ .idle) : State.refill fuel s = s := by
  cases fuel with
  | zero => rfl
  | succ fuel =>
    unfold State.refill
    split
    · rfl
    · rfl
    · rename_i hi
      exact absurd hi h

theorem engineTurn_busy (s : State) (h : s.engine.now ≠ .idle) : s.engineTurn = s := refill_busy _ s h

/-- R123: an URGENT job starts first. -/
theorem engineTurn_urgent (s : State) (x : Job) (h : s.engine.now = .idle) (hx : s.oldestEligible .urgent = some x) :
    s.engineTurn = State.refill s.jobs.table.length (s.startJob x) := by
  rw [State.engineTurn, State.refill]
  simp only [h, hx]

/-- R132: without an eligible URGENT job the shadow is restored. -/
theorem engineTurn_restores (s : State) (c : Context) (h : s.engine.now = .idle) (hx : s.oldestEligible .urgent = none)
    (hc : s.engine.shadow = some c) : s.engineTurn = s.restore c := by
  rw [State.engineTurn, State.refill]
  simp only [h, hx, hc]

/-- R123: without a shadow, a STILL job starts before a PREVIEW job. -/
theorem engineTurn_starts (s : State) (x : Job) (h : s.engine.now = .idle) (hu : s.oldestEligible .urgent = none)
    (hc : s.engine.shadow = none) (hx : (s.oldestEligible .still).or (s.oldestEligible .preview) = some x) :
    s.engineTurn = State.refill s.jobs.table.length (s.startJob x) := by
  rw [State.engineTurn, State.refill]
  simp only [h, hu, hc]
  cases hs : s.oldestEligible .still with
  | some y =>
    rw [hs, Option.some_or] at hx
    cases hx
    rfl
  | none =>
    rw [hs, Option.none_or] at hx
    simp only [hx]

theorem engineTurn_idle (s : State) (h : s.engine.now = .idle) (hu : s.oldestEligible .urgent = none)
    (hc : s.engine.shadow = none) (hx : (s.oldestEligible .still).or (s.oldestEligible .preview) = none) :
    s.engineTurn = s := by
  rw [State.engineTurn, State.refill]
  simp only [h, hu, hc]
  cases hs : s.oldestEligible .still with
  | some y =>
    rw [hs, Option.some_or] at hx
    cases hx
  | none =>
    rw [hs, Option.none_or] at hx
    simp only [hx]

/-- R124, R125: a chosen job that is not rejected at its start runs, with the shadow as before. -/
theorem startJob_runs {s : State} {j x : Job} (hf : s.findJob x.number = some j)
    (h : x.geom.policy = .pass ∨ (s.startInputs x).isSome) :
    (s.startJob x).engine.now.job = some x.number ∧ (s.startJob x).engine.now ≠ .idle ∧
      (s.startJob x).engine.shadow = s.engine.shadow ∧
      ∃ y, (s.startJob x).findJob x.number = some y ∧ y.state = .running := by
  unfold State.startJob
  cases hi : s.startInputs x with
  | some p =>
    obtain ⟨v, l⟩ := p
    refine ⟨rfl, EngineState.noConfusion, rfl, ?_⟩
    exact ⟨_, findJob_updateJob _ (findJob_updateJob _ hf fun _ => rfl) fun _ => rfl, rfl⟩
  | none =>
    rw [hi] at h
    have hp : x.geom.policy = .pass := by simpa using h
    simp only [State.startWithout, hp]
    refine ⟨rfl, EngineState.noConfusion, rfl, ?_⟩
    exact ⟨_, findJob_updateJob _ (findJob_updateJob _ hf fun _ => rfl) fun _ => rfl, rfl⟩

/-- R125: a job without inputs under REJECT ends FAILED_NO_PROFILE at its start. -/
theorem startJob_rejects {s : State} {x : Job} (hp : x.geom.policy = .reject) (hi : s.startInputs x = none) :
    s.startJob x = s.endJob x.number .failedNoProfile := by
  unfold State.startJob
  rw [hi]
  simp only [State.startWithout, hp]

/-- R132 step 2: the restored job, RUNNING while memory is granted. -/
theorem restore_granted (s : State) (c : Context) (h : s.memPort.grant = .granted) :
    (s.restore c).engine = { now := .inBand c, shadow := none } ∧
      (s.restore c).jobs = (s.updateJob c.job fun j => { j with state := .running }).jobs ∧
      (s.restore c).memPort = s.memPort := by
  unfold State.restore
  simp only [State.withEngine, h]
  exact ⟨rfl, rfl, rfl⟩

/-- R132 step 2: the restored job, PAUSED with a fresh interval while memory is withdrawn. -/
theorem restore_withdrawn (s : State) (c : Context) (h : s.memPort.grant = .withdrawn) :
    (s.restore c).engine = { now := .holding c, shadow := none } ∧
      (s.restore c).jobs = (s.updateJob c.job fun j => { j with state := .paused }).jobs ∧
      (s.restore c).memPort = { s.memPort with pauseTimer := some {
        job := c.job, expiry := stampPlus s.timebase (1000 * s.memPort.pauseLimit) } } := by
  unfold State.restore
  simp only [State.withEngine, h]
  refine ⟨rfl, rfl, ?_⟩
  simp [State.pause, State.startPause, State.withMemPort, State.withEngine, State.updateJob, State.withTable, State.withJobs, h]

end Sys2Proof.Machine
end

