-- ==== Sys2Proof/Laws/Memory.lean ====
section
/-! SUPPORT. The bytes of frame memory: reading after a write, and the canonical form, which every write keeps. -/

namespace Sys2Proof.Machine

/-- A byte reads as what was last written to it. -/
theorem Memory.read_write_same (m : Memory) (a : Nat) (b : Byte) (h : m.wf = true) : (m.write a b).read a = b := by
  have key : ∀ (m : Memory) (lo : Nat), Memory.wfAbove lo m = true → (m.write a b).read a = b ∧
      (a ≤ lo → m.read a = unlistedByte) := by
    intro m
    induction m with
    | nil => intro lo _; by_cases hb : b = unlistedByte <;> simp [Memory.write, Memory.read, hb]
    | cons x rest ih =>
      obtain ⟨c, d⟩ := x
      intro lo h
      simp only [Memory.wfAbove, Bool.and_eq_true, decide_eq_true_eq] at h
      obtain ⟨⟨h1, h2⟩, h3⟩ := h
      obtain ⟨ih1, ih2⟩ := ih c h3
      refine ⟨?_, fun hle => ?_⟩
      · simp only [Memory.write]
        split
        · split
          · rename_i hlt hb; simp [Memory.read, Nat.ne_of_lt hlt, ih2 (Nat.le_of_lt hlt), hb]
          · simp [Memory.read]
        · split
          · rename_i heq
            split
            · rename_i hb; rw [ih2 (by omega), hb]
            · simp [Memory.read]
          · rename_i hne; simp [Memory.read, hne, ih1]
      · have : a ≠ c := by omega
        simp [Memory.read, this, ih2 (by omega)]
  cases m with
  | nil => by_cases hb : b = unlistedByte <;> simp [Memory.write, Memory.read, hb]
  | cons x rest =>
    obtain ⟨c, d⟩ := x
    simp only [Memory.wf, Bool.and_eq_true, decide_eq_true_eq] at h
    rcases Nat.eq_zero_or_pos c with hc | hc
    · obtain ⟨k1, k2⟩ := key rest c h.2
      simp only [Memory.write]
      split
      · omega
      · split
        · rename_i heq
          split
          · rename_i hb; rw [k2 (by omega), hb]
          · simp [Memory.read]
        · rename_i hne; simp [Memory.read, hne, k1]
    · exact (key ((c, d) :: rest) 0 (by simp [Memory.wfAbove, hc, h.1, h.2])).1

/-- Other bytes read as before. -/
theorem Memory.read_write_other (m : Memory) (a a' : Nat) (b : Byte) (h : a' ≠ a) : (m.write a b).read a' = m.read a' := by
  induction m with
  | nil => by_cases hb : b = unlistedByte <;> simp [Memory.write, Memory.read, hb, h]
  | cons x rest ih =>
    obtain ⟨c, d⟩ := x
    simp only [Memory.write]
    split
    · split <;> simp [Memory.read, h]
    · split
      · rename_i heq
        subst heq
        split <;> simp [Memory.read, h]
      · simp only [Memory.read, ih]

/-- The canonical form above an address, after a write above it. -/
theorem Memory.wfAbove_write (m : Memory) (lo a : Nat) (b : Byte) (h : Memory.wfAbove lo m = true) (ha : lo < a) :
    Memory.wfAbove lo (m.write a b) = true := by
  induction m generalizing lo with
  | nil => by_cases hb : b = unlistedByte <;> simp [Memory.write, Memory.wfAbove, hb, ha]
  | cons x rest ih =>
    obtain ⟨c, d⟩ := x
    simp only [Memory.wfAbove, Bool.and_eq_true, decide_eq_true_eq] at h
    obtain ⟨⟨h1, h2⟩, h3⟩ := h
    have weak : ∀ (m : Memory) (l l' : Nat), l ≤ l' → Memory.wfAbove l' m = true → Memory.wfAbove l m = true := by
      intro m l l' hll hm
      cases m with
      | nil => rfl
      | cons y _ =>
        simp only [Memory.wfAbove, Bool.and_eq_true, decide_eq_true_eq] at hm ⊢
        exact ⟨⟨by omega, hm.1.2⟩, hm.2⟩
    simp only [Memory.write]
    split
    · split
      · simp [Memory.wfAbove, h1, h2, h3]
      · rename_i hlt hb; simp [Memory.wfAbove, ha, hb, hlt, h2, h3]
    · split
      · split
        · exact weak rest lo c (Nat.le_of_lt h1) h3
        · rename_i heq hb; subst heq; simp [Memory.wfAbove, h1, hb, h3]
      · simp only [Memory.wfAbove, Bool.and_eq_true, decide_eq_true_eq]
        exact ⟨⟨h1, h2⟩, ih c h3 (by omega)⟩

/-- Every write keeps the canonical form. -/
theorem Memory.wf_write (m : Memory) (a : Nat) (b : Byte) (h : m.wf = true) : (m.write a b).wf = true := by
  cases m with
  | nil => by_cases hb : b = unlistedByte <;> simp [Memory.write, Memory.wf, Memory.wfAbove, hb]
  | cons x rest =>
    obtain ⟨c, d⟩ := x
    simp only [Memory.wf, Bool.and_eq_true, decide_eq_true_eq] at h
    simp only [Memory.write]
    split
    · split
      · simp [Memory.wf, h.1, h.2]
      · rename_i hlt hb; simp [Memory.wf, Memory.wfAbove, hb, hlt, h.1, h.2]
    · split
      · split
        · cases rest with
          | nil => rfl
          | cons y _ =>
            have h2 := h.2
            simp only [Memory.wfAbove, Bool.and_eq_true, decide_eq_true_eq] at h2
            simp [Memory.wf, h2.1.2, h2.2]
        · rename_i heq hb; subst heq; simp [Memory.wf, hb, h.2]
      · simp only [Memory.wf, Bool.and_eq_true, decide_eq_true_eq]
        exact ⟨h.1, Memory.wfAbove_write rest c a b h.2 (by omega)⟩

/-- Writes in order keep the canonical form. -/
theorem Memory.wf_writeAll (m : Memory) (ws : List Host.Cell) (h : m.wf = true) : (m.writeAll ws).wf = true := by
  unfold Memory.writeAll
  induction ws generalizing m with
  | nil => exact h
  | cons w rest ih => exact ih _ (Memory.wf_write m w.1 w.2 h)

/-- A byte that no write names reads as before. -/
theorem Memory.read_writeAll_other (m : Memory) (ws : List Host.Cell) (a : Nat) (h : ∀ w ∈ ws, w.1 ≠ a) :
    (m.writeAll ws).read a = m.read a := by
  unfold Memory.writeAll
  induction ws generalizing m with
  | nil => rfl
  | cons w rest ih =>
    simp only [List.foldl_cons]
    rw [ih _ fun x hx => h x (by simp [hx])]
    exact Memory.read_write_other _ _ _ _ fun e => h w (by simp) e.symm

end Sys2Proof.Machine
end

