-- ==== Sys2Proof/Laws/Mapping.lean ====
section
/-! SUPPORT. What the operations of the pixel mapping give: the lines of a band, the needed and the fetched lines, the nearest line,
the samples that are reported, and the bytes that stand in memory after a list of writes. -/

namespace Sys2Proof.Machine

/-! ### Lines -/

theorem mem_bandLines (height band y : Nat) :
    y ∈ bandLines height band ↔ 16 * band ≤ y ∧ y < 16 * band + 16 ∧ y < height := by
  unfold bandLines
  simp only [List.mem_filterMap, List.mem_range, Option.ite_none_right_eq_some, Option.some.injEq]
  constructor
  · rintro ⟨k, hk, hh, rfl⟩
    omega
  · rintro ⟨h1, h2, h3⟩
    exact ⟨y - 16 * band, by omega, by omega, by omega⟩

theorem mem_insertLine (j k : Nat) (l : List Nat) : k ∈ insertLine j l ↔ k = j ∨ k ∈ l := by
  induction l with
  | nil => simp [insertLine]
  | cons a l ih =>
    unfold insertLine
    split
    · simp
    · split
      · simp_all
      · simp [ih]
        tauto

theorem insertLine_ascending (j : Nat) (l : List Nat) (h : l.Pairwise (· < ·)) : (insertLine j l).Pairwise (· < ·) := by
  induction l with
  | nil => simp [insertLine]
  | cons a l ih =>
    rw [List.pairwise_cons] at h
    unfold insertLine
    split
    · rename_i hja
      refine List.pairwise_cons.2 ⟨?_, List.pairwise_cons.2 h⟩
      intro k hk
      rcases List.mem_cons.1 hk with rfl | hk
      · exact hja
      · exact lt_trans hja (h.1 k hk)
    · split
      · exact List.pairwise_cons.2 h
      · refine List.pairwise_cons.2 ⟨?_, ih h.2⟩
        intro k hk
        rcases (mem_insertLine j k l).1 hk with rfl | hk
        · omega
        · exact h.1 k hk

/-- The fold of `insideLines` from any list: what it holds, and that it stays ascending. -/
theorem insideLines_fold (height : Nat) (needed : List Int) (acc : List Nat) :
    let l := needed.foldl (fun acc j => if 0 ≤ j ∧ j < (height : Int) then insertLine j.toNat acc else acc) acc
    (∀ k, k ∈ l ↔ k ∈ acc ∨ (k < height ∧ (k : Int) ∈ needed)) ∧ (acc.Pairwise (· < ·) → l.Pairwise (· < ·)) := by
  induction needed generalizing acc with
  | nil => simp
  | cons j rest ih =>
    rw [List.foldl_cons]
    split
    · rename_i hj
      refine ⟨fun k => ?_, fun h => (ih _).2 (insertLine_ascending _ _ h)⟩
      rw [(ih _).1 k, mem_insertLine, List.mem_cons]
      constructor
      · rintro ((rfl | h) | h)
        · exact Or.inr ⟨by omega, Or.inl (by omega)⟩
        · exact Or.inl h
        · exact Or.inr ⟨h.1, Or.inr h.2⟩
      · rintro (h | ⟨h, rfl | hr⟩)
        · exact Or.inl (Or.inr h)
        · exact Or.inl (Or.inl (by omega))
        · exact Or.inr ⟨h, hr⟩
    · rename_i hj
      refine ⟨fun k => ?_, (ih _).2⟩
      rw [(ih _).1 k, List.mem_cons]
      constructor
      · rintro (h | h)
        · exact Or.inl h
        · exact Or.inr ⟨h.1, Or.inr h.2⟩
      · rintro (h | ⟨h, rfl | hr⟩)
        · exact Or.inl h
        · omega
        · exact Or.inr ⟨h, hr⟩

theorem mem_insideLines (height : Nat) (needed : List Int) (k : Nat) :
    k ∈ insideLines height needed ↔ k < height ∧ (k : Int) ∈ needed := by
  simpa [insideLines] using (insideLines_fold height needed []).1 k

theorem insideLines_ascending (height : Nat) (needed : List Int) : (insideLines height needed).Pairwise (· < ·) :=
  (insideLines_fold height needed []).2 List.Pairwise.nil

theorem lowestLine_mem (l : List Int) (h : l ≠ []) : lowestLine l ∈ l ∧ ∀ k ∈ l, lowestLine l ≤ k := by
  induction l with
  | nil => exact absurd rfl h
  | cons j rest ih =>
    cases rest with
    | nil => simp [lowestLine]
    | cons k rest =>
      obtain ⟨hm, hl⟩ := ih (by simp)
      have e : lowestLine (j :: k :: rest) = min j (lowestLine (k :: rest)) := rfl
      rw [e]
      refine ⟨?_, ?_⟩
      · rcases min_choice j (lowestLine (k :: rest)) with h | h <;> rw [h]
        · exact List.mem_cons_self
        · exact List.mem_cons_of_mem _ hm
      · intro x hx
        rcases List.mem_cons.1 hx with rfl | hx
        · exact min_le_left _ _
        · exact le_trans (min_le_right _ _) (hl x hx)

/-- R127: the fetched lines, by whether a needed line lies inside the frame. -/
theorem fetchedLines_cases (height : Nat) (needed : List Int) :
    (insideLines height needed = [] ∧
      fetchedLines height needed = if lowestLine needed < 0 then [0] else [height - 1]) ∨
    (insideLines height needed ≠ [] ∧ fetchedLines height needed = (insideLines height needed).take 256) := by
  unfold fetchedLines
  cases h : insideLines height needed with
  | nil => exact Or.inl ⟨rfl, rfl⟩
  | cons a l => exact Or.inr ⟨by simp, rfl⟩

theorem fetchedLines_ascending (height : Nat) (needed : List Int) : (fetchedLines height needed).Pairwise (· < ·) := by
  rcases fetchedLines_cases height needed with ⟨_, h⟩ | ⟨_, h⟩ <;> rw [h]
  · split <;> simp
  · exact (insideLines_ascending _ _).sublist (List.take_sublist _ _)

theorem fetchedLines_nonempty (height : Nat) (needed : List Int) : fetchedLines height needed ≠ [] := by
  rcases fetchedLines_cases height needed with ⟨_, h⟩ | ⟨hn, h⟩ <;> rw [h]
  · split <;> simp
  · simpa using hn

/-- R94, R127: the nearest of the lines given, and the first of those equally near. -/
theorem nearestLine_cases (j : Int) (best : Nat) (l : List Nat) :
    nearestLine j best l ∈ best :: l ∧ ∀ k ∈ best :: l, (j - (nearestLine j best l : Int)).natAbs ≤ (j - (k : Int)).natAbs := by
  induction l generalizing best with
  | nil => simp [nearestLine]
  | cons a l ih =>
    unfold nearestLine
    split
    · rename_i h
      obtain ⟨hm, hl⟩ := ih a
      refine ⟨List.mem_cons_of_mem _ hm, ?_⟩
      intro k hk
      rcases List.mem_cons.1 hk with rfl | hk
      · exact le_trans (hl a List.mem_cons_self) (le_of_lt h)
      · exact hl k hk
    · rename_i h
      obtain ⟨hm, hl⟩ := ih best
      refine ⟨?_, ?_⟩
      · rcases List.mem_cons.1 hm with e | hm
        · rw [e]
          exact List.mem_cons_self
        · exact List.mem_cons_of_mem _ (List.mem_cons_of_mem _ hm)
      · intro k hk
        rcases List.mem_cons.1 hk with rfl | hk
        · exact hl k List.mem_cons_self
        · rcases List.mem_cons.1 hk with rfl | hk
          · exact le_trans (hl best List.mem_cons_self) (not_lt.1 h)
          · exact hl k (List.mem_cons_of_mem _ hk)

/-- Of two ascending lines equally near, the upper one is taken. -/
theorem nearestLine_upper (j : Int) (best : Nat) (l : List Nat) (h : (best :: l).Pairwise (· < ·)) :
    ∀ k ∈ best :: l, (j - (nearestLine j best l : Int)).natAbs = (j - (k : Int)).natAbs → nearestLine j best l ≤ k := by
  induction l generalizing best with
  | nil => simp [nearestLine]
  | cons a l ih =>
    obtain ⟨hb, ha⟩ := List.pairwise_cons.1 h
    unfold nearestLine
    split
    · rename_i hlt
      intro k hk he
      rcases List.mem_cons.1 hk with rfl | hk
      · have := (nearestLine_cases j a l).2 a List.mem_cons_self
        omega
      · exact ih a ha k hk he
    · rename_i hge
      have hbl : (best :: l).Pairwise (· < ·) :=
        List.pairwise_cons.2 ⟨fun x hx => hb x (List.mem_cons_of_mem _ hx), (List.pairwise_cons.1 ha).2⟩
      intro k hk he
      rcases List.mem_cons.1 hk with rfl | hk
      · exact ih k hbl k List.mem_cons_self he
      · rcases List.mem_cons.1 hk with rfl | hk
        · have h1 := (nearestLine_cases j best l).2 best List.mem_cons_self
          have h2 := ih best hbl best List.mem_cons_self (by omega)
          have h3 := hb k List.mem_cons_self
          omega
        · exact ih best hbl k (List.mem_cons_of_mem _ hk) he

theorem nearestColumn_eq (width : Nat) (i : Int) (h : 0 < width) :
    nearestColumn width i = if i < 0 then 0 else if i < width then i.toNat else width - 1 := by
  unfold nearestColumn
  split
  · omega
  · split <;> omega

/-! ### Samples -/

/-- R94, R128: what makes a sample one that is reported (log 33). -/
theorem unfetched_iff (g : Geometry) (fetched : List Nat) (i j : Int) :
    unfetched g fetched i j = true ↔ (0 ≤ i ∧ i < g.srcWidth) ∧ (0 ≤ j ∧ j < g.srcHeight) ∧ j.toNat ∉ fetched := by
  simp [unfetched, and_assoc]

/-- A point is reported for one of its four samples. -/
theorem pointLimited_iff (g : Geometry) (fetched : List Nat) (q : Point) :
    pointLimited g fetched q = true ↔ ∃ right below : Int, (right = 0 ∨ right = 1) ∧ (below = 0 ∨ below = 1) ∧
      unfetched g fetched (wholePart q.x + right) (wholePart q.y + below) = true := by
  unfold pointLimited
  simp only [Bool.or_eq_true]
  constructor
  · rintro (((h | h) | h) | h)
    · exact ⟨0, 0, Or.inl rfl, Or.inl rfl, by simpa using h⟩
    · exact ⟨1, 0, Or.inr rfl, Or.inl rfl, by simpa using h⟩
    · exact ⟨0, 1, Or.inl rfl, Or.inr rfl, by simpa using h⟩
    · exact ⟨1, 1, Or.inr rfl, Or.inr rfl, h⟩
  · rintro ⟨r, b, rfl | rfl, rfl | rfl, h⟩ <;> simp_all

theorem limited_iff (g : Geometry) (fetched : List Nat) (p : PixelPoints) :
    p.limited g fetched = true ↔ ∃ a : Plane, pointLimited g fetched (p.plane a) = true := by
  unfold PixelPoints.limited
  simp only [Bool.or_eq_true]
  constructor
  · rintro ((h | h) | h)
    · exact ⟨.red, h⟩
    · exact ⟨.green, h⟩
    · exact ⟨.blue, h⟩
  · rintro ⟨a, h⟩
    cases a
    · exact Or.inl (Or.inl h)
    · exact Or.inl (Or.inr h)
    · exact Or.inr h

/-- The points of a band are those of the pixels of its lines. -/
theorem mem_bandPoints (g : Geometry) (ws : WorkingSet) (band : Nat) (P : PixelPoints → Prop) :
    (∃ line ∈ bandPoints g ws band, ∃ p ∈ line, P p) ↔
      ∃ y x, (16 * band ≤ y ∧ y < 16 * band + 16 ∧ y < g.outHeight) ∧ x < g.outWidth ∧ P (pixelPoints g ws x y) := by
  unfold bandPoints
  constructor
  · rintro ⟨line, hl, p, hp, h⟩
    obtain ⟨y, hy, rfl⟩ := List.mem_map.1 hl
    obtain ⟨x, hx, rfl⟩ := List.mem_map.1 hp
    exact ⟨y, x, (mem_bandLines _ _ _).1 hy, List.mem_range.1 hx, h⟩
  · rintro ⟨y, x, hy, hx, h⟩
    exact ⟨_, List.mem_map.2 ⟨y, (mem_bandLines _ _ _).2 hy, rfl⟩, _, List.mem_map.2 ⟨x, List.mem_range.2 hx, rfl⟩, h⟩

/-- R93: a blend of samples lies under the greatest of them. -/
theorem blendSamples_le (a b s00 s10 s01 s11 limit : Nat) (ha : a ≤ 64) (hb : b ≤ 64) (h00 : s00 ≤ limit) (h10 : s10 ≤ limit)
    (h01 : s01 ≤ limit) (h11 : s11 ≤ limit) : blendSamples a b s00 s10 s01 s11 ≤ limit := by
  unfold blendSamples
  have h1 := Nat.mul_le_mul_left ((64 - a) * (64 - b)) h00
  have h2 := Nat.mul_le_mul_left (a * (64 - b)) h10
  have h3 := Nat.mul_le_mul_left ((64 - a) * b) h01
  have h4 := Nat.mul_le_mul_left (a * b) h11
  have hs : (64 - a) * (64 - b) * limit + a * (64 - b) * limit + (64 - a) * b * limit + a * b * limit = 4096 * limit := by
    have e1 : (64 - a) + a = 64 := by omega
    have e2 : (64 - b) + b = 64 := by omega
    calc _ = ((64 - a) + a) * ((64 - b) + b) * limit := by ring
      _ = 4096 * limit := by rw [e1, e2]
  omega

/-! ### Memory after a list of writes -/

/-- Writes at distinct addresses: each address reads as the byte written to it. -/
theorem Memory.read_writeAll_mem (m : Memory) (ws : List Host.Cell) (h : m.wf = true) (hd : (ws.map Prod.fst).Nodup)
    (w : Host.Cell) (hw : w ∈ ws) : (m.writeAll ws).read w.1 = w.2 := by
  induction ws generalizing m with
  | nil => cases hw
  | cons v ws ih =>
    rw [List.map_cons, List.nodup_cons] at hd
    have hstep : m.writeAll (v :: ws) = (m.write v.1 v.2).writeAll ws := rfl
    rw [hstep]
    rcases List.mem_cons.1 hw with rfl | hw
    · rw [Memory.read_writeAll_other _ _ _ (fun x hx e => hd.1 (List.mem_map.2 ⟨x, hx, e⟩))]
      exact Memory.read_write_same m _ _ h
    · exact ih _ (Memory.wf_write m _ _ h) hd.2 hw

/-- R149: the writes of a line stand at the line's addresses, one byte after the other. -/
theorem lineWrites_get (d : Descriptor) (y : Nat) (bytes : List Byte) (k : Nat) (b : Byte) (h : bytes[k]? = some b) :
    (d.address + y * d.pitch + k, b) ∈ lineWrites d y bytes := by
  unfold lineWrites
  refine List.mem_map.2 ⟨(b, k), ?_, rfl⟩
  rw [List.mem_zipIdx_iff_getElem?]
  exact h

theorem mem_lineWrites (d : Descriptor) (y : Nat) (bytes : List Byte) (w : Host.Cell) (h : w ∈ lineWrites d y bytes) :
    ∃ k, bytes[k]? = some w.2 ∧ w.1 = d.address + y * d.pitch + k := by
  unfold lineWrites at h
  obtain ⟨⟨b, k⟩, hb, rfl⟩ := List.mem_map.1 h
  rw [List.mem_zipIdx_iff_getElem?] at hb
  exact ⟨k, hb, rfl⟩

/-- The bytes of an output pixel are three samples of the format. -/
theorem pixelBytes_length (m : Memory) (d : Descriptor) (g : Geometry) (fetched : List Nat) (q : PixelPoints) :
    (pixelBytes m d g fetched q).length = bytesPerPixel g.format := by
  unfold pixelBytes sampleBytes bytesPerPixel
  cases g.format <;> rfl

end Sys2Proof.Machine
end

