-- ==== Sys2Proof/Laws/Store.lean ====
section
/-! SUPPORT. The Profile Store: reading a slot after a change of one, the used count against the versions present, and what pins,
releases, leaving service and edits do to the laws of the store. -/

namespace Sys2Proof.Machine

/-! ### Slots -/

@[simp] theorem Store.slot_setSlot_same (st : Store) (i : Fin 32) (x : Slot) : (st.setSlot i x).slot i = x := by
  simp [Store.slot, Store.setSlot]

theorem Store.slot_setSlot_other (st : Store) (i j : Fin 32) (x : Slot) (h : j ≠ i) : (st.setSlot i x).slot j = st.slot j := by
  have : i.val ≠ j.val := fun e => h (Fin.ext e.symm)
  simp [Store.slot, Store.setSlot, Vector.getElem_set, this]

theorem Store.slot_setSlot (st : Store) (i j : Fin 32) (x : Slot) :
    (st.setSlot i x).slot j = if j = i then x else st.slot j := by
  split
  · next h => subst h; simp
  · next h => exact Store.slot_setSlot_other _ _ _ _ h

@[simp] theorem Store.setSlot_used (st : Store) (i : Fin 32) (x : Slot) : (st.setSlot i x).used = st.used := rfl

/-- A change of the used count changes no slot. -/
@[simp] theorem Store.slot_used (st : Store) (n : Nat) (i : Fin 32) : ({ st with used := n } : Store).slot i = st.slot i := rfl

@[simp] theorem mem_allSlots (i : Fin 32) : i ∈ allSlots := List.mem_finRange i

/-- A sum over the slots, when the value at one slot changes. -/
theorem sum_change (f g : Fin 32 → Nat) (i : Fin 32) (h : ∀ j, j ≠ i → g j = f j) (l : List (Fin 32)) (hl : l.Nodup)
    (hi : i ∈ l) : (l.map g).sum + f i = (l.map f).sum + g i := by
  induction l with
  | nil => cases hi
  | cons a rest ih =>
    simp only [List.map_cons, List.sum_cons]
    have hn := List.nodup_cons.1 hl
    by_cases ha : a = i
    · subst ha
      have : rest.map g = rest.map f := List.map_congr_left fun j hj => h j fun e => hn.1 (e ▸ hj)
      rw [this]; omega
    · have hr : i ∈ rest := by
        rcases List.mem_cons.1 hi with e | e
        · exact absurd e.symm ha
        · exact e
      have := ih hn.2 hr
      rw [h a ha]; omega

/-- Law 1's sum after a change of one slot. -/
theorem Store.presentBlocks_setSlot (st : Store) (i : Fin 32) (x : Slot) :
    (st.setSlot i x).presentBlocks + (st.slot i).blocks = st.presentBlocks + x.blocks := by
  unfold Store.presentBlocks
  have := sum_change (fun j => (st.slot j).blocks) (fun j => ((st.setSlot i x).slot j).blocks) i
    (fun j hj => by simp [Store.slot_setSlot_other _ _ _ _ hj]) allSlots (List.nodup_finRange 32) (by simp)
  simpa using this

/-- Every slot's blocks are among those counted. -/
theorem Store.blocks_le (st : Store) (i : Fin 32) : (st.slot i).blocks ≤ st.presentBlocks := by
  unfold Store.presentBlocks
  exact List.single_le_sum (by simp) _ (List.mem_map.2 ⟨i, by simp, rfl⟩)

/-! ### Lookup (R15) -/

/-- The lookup reads the live versions' keys and numbers alone. -/
theorem Store.lookup_congr {st st' : Store}
    (h : ∀ i, (st'.slot i).live.map (fun v => (v.key, v.number)) = (st.slot i).live.map fun v => (v.key, v.number))
    (key : LensKey) : st'.lookup key = st.lookup key := by
  unfold Store.lookup
  congr 1
  funext i
  have := h i
  cases h1 : (st.slot i).live <;> cases h2 : (st'.slot i).live <;> simp_all

/-- R15: what a lookup finds is a live version with the key. -/
theorem Store.lookup_some {st : Store} {key : LensKey} {r : ProfileRef} (h : st.lookup key = some r) :
    ∃ v, (st.slot r.slot).live = some v ∧ v.key = key ∧ v.number = r.number := by
  unfold Store.lookup at h
  obtain ⟨i, -, hi⟩ := List.exists_of_findSome?_eq_some h
  cases hl : (st.slot i).live with
  | none => rw [hl] at hi; cases hi
  | some v =>
    rw [hl] at hi
    simp only at hi
    split at hi
    · cases hi; exact ⟨v, hl, ‹_›, rfl⟩
    · cases hi

/-- R15: a lookup finds nothing exactly when no live version has the key. -/
theorem Store.lookup_none {st : Store} {key : LensKey} :
    st.lookup key = none ↔ ∀ i v, (st.slot i).live = some v → v.key ≠ key := by
  unfold Store.lookup
  rw [List.findSome?_eq_none_iff]
  constructor
  · intro h i v hv hk
    have := h i (by simp)
    rw [hv] at this
    simp [hk] at this
  · intro h i _
    cases hv : (st.slot i).live with
    | none => rfl
    | some v => simp [h i v hv]

/-! ### Pins and releases (R13, R14) -/

@[simp] theorem Version.pinIf_key (n : Nat) (v : Version) : (v.pinIf n).key = v.key := by unfold Version.pinIf; split <;> rfl
@[simp] theorem Version.pinIf_number (n : Nat) (v : Version) : (v.pinIf n).number = v.number := by
  unfold Version.pinIf; split <;> rfl
@[simp] theorem Version.pinIf_cost (n : Nat) (v : Version) : (v.pinIf n).cost = v.cost := by unfold Version.pinIf; split <;> rfl
@[simp] theorem Version.unpinIf_key (n : Nat) (v : Version) : (v.unpinIf n).key = v.key := by
  unfold Version.unpinIf; split <;> rfl
@[simp] theorem Version.unpinIf_number (n : Nat) (v : Version) : (v.unpinIf n).number = v.number := by
  unfold Version.unpinIf; split <;> rfl
@[simp] theorem Version.unpinIf_cost (n : Nat) (v : Version) : (v.unpinIf n).cost = v.cost := by
  unfold Version.unpinIf; split <;> rfl

/-- R13: a slot after a pin. -/
theorem Store.slot_pin (st : Store) (r : ProfileRef) (i : Fin 32) :
    (st.pin r).slot i =
      if i = r.slot then { st.slot i with live := (st.slot i).live.map (Version.pinIf r.number),
                                          retired := (st.slot i).retired.map (Version.pinIf r.number) }
      else st.slot i := by
  unfold Store.pin
  dsimp only
  rw [Store.slot_setSlot]
  split
  · next h => subst h; rfl
  · rfl

@[simp] theorem Store.pin_used (st : Store) (r : ProfileRef) : (st.pin r).used = st.used := rfl

/-- R14: a slot after a release. -/
theorem Store.slot_unpin (st : Store) (r : ProfileRef) (i : Fin 32) :
    (st.unpin r).slot i =
      if i = r.slot then { st.slot i with
          live := (st.slot i).live.map (Version.unpinIf r.number)
          retired := ((st.slot i).retired.filter fun v => !v.lastPin r.number).map (Version.unpinIf r.number) }
      else st.slot i := by
  unfold Store.unpin
  dsimp only
  rw [Store.slot_used, Store.slot_setSlot]
  split
  · next h => subst h; rfl
  · rfl

/-- R14: the used count after a release. -/
theorem Store.unpin_used (st : Store) (r : ProfileRef) :
    (st.unpin r).used = st.used - totalCost ((st.slot r.slot).retired.filter (Version.lastPin r.number)) := rfl

/-- A release leaves a RETIRED version a pin, or frees it. -/
theorem unpin_pinned (n : Nat) (l : List Version) (h : ∀ v ∈ l, 0 < v.pins) :
    ∀ v ∈ (l.filter fun v => !v.lastPin n).map (Version.unpinIf n), 0 < v.pins := by
  intro v hv
  obtain ⟨w, hw, rfl⟩ := List.mem_map.1 hv
  have hw1 := h w (List.mem_filter.1 hw).1
  have hw2 := (List.mem_filter.1 hw).2
  unfold Version.unpinIf
  split
  · next he =>
    simp only [Version.lastPin, he, decide_true, Bool.true_and, Bool.not_eq_true', decide_eq_false_iff_not] at hw2
    show 0 < w.pins - 1
    omega
  · exact hw1

/-- The blocks of a list, split by a test. -/
theorem totalCost_split (p : Version → Bool) (l : List Version) :
    totalCost (l.filter p) + totalCost (l.filter fun v => !p v) = totalCost l := by
  induction l with
  | nil => rfl
  | cons v rest ih =>
    unfold totalCost at ih ⊢
    by_cases h : p v <;> simp [h] <;> omega

@[simp] theorem totalCost_map (f : Version → Version) (hf : ∀ v, (f v).cost = v.cost) (l : List Version) :
    totalCost (l.map f) = totalCost l := by
  simp [totalCost, Function.comp_def, hf]

/-- The store and state forms of a pin. -/
theorem State.pin_store (s : State) (r : Option ProfileRef) :
    (s.pin r).store = match r with | some r => s.store.pin r | none => s.store := by cases r <;> rfl

theorem State.unpin_store (s : State) (r : Option ProfileRef) :
    (s.unpin r).store = match r with | some r => s.store.unpin r | none => s.store := by cases r <;> rfl

end Sys2Proof.Machine
end

