-- ==== Sys2Proof/Laws/Pins.lean ====
section
/-! SUPPORT. Every event but an edit, a commit and a delete changes the store by pins and releases alone: a property of stores that
pins and releases keep is kept by each of the shared operations, and by every command outside the store and edit requests. -/

namespace Sys2Proof.Machine

/-- A property of stores that pins and releases keep. -/
def PinStable (Q : Store → Prop) : Prop := (∀ st r, Q st → Q (st.pin r)) ∧ ∀ st r, Q st → Q (st.unpin r)

/-- A property that each step of a fold keeps is kept by the fold. -/
theorem foldl_invariant {α : Type} {P : State → Prop} {f : State → α → State} (hf : ∀ s a, P s → P (f s a)) (l : List α)
    {s : State} (h : P s) : P (l.foldl f s) := by
  induction l generalizing s with
  | nil => exact h
  | cons a rest ih => exact ih (hf _ _ h)

variable {Q : Store → Prop}

theorem State.pin_stable (hQ : PinStable Q) {s : State} (r : Option ProfileRef) (h : Q s.store) : Q (s.pin r).store := by
  cases r with
  | none => exact h
  | some r => exact hQ.1 _ _ h

theorem State.unpin_stable (hQ : PinStable Q) {s : State} (r : Option ProfileRef) (h : Q s.store) : Q (s.unpin r).store := by
  cases r with
  | none => exact h
  | some r => exact hQ.2 _ _ h

theorem State.closeEntry_stable (hQ : PinStable Q) {s : State} (j : Job) (r : JobResult) (h : Q s.store) :
    Q (s.closeEntry j r).store := by
  unfold State.closeEntry
  dsimp only
  split
  · simpa using State.unpin_stable hQ (s := s.updateJob j.number _) j.ref (by simpa using h)
  · exact State.unpin_stable hQ (s := s.updateJob j.number _) j.ref (by simpa using h)

theorem State.endJob_stable (hQ : PinStable Q) {s : State} (n : Nat) (r : JobResult) (h : Q s.store) :
    Q (s.endJob n r).store := by
  unfold State.endJob
  split
  · exact h
  · next j _ =>
    dsimp only
    split <;> simpa using State.closeEntry_stable hQ j r h

theorem State.startJob_stable (hQ : PinStable Q) {s : State} (j : Job) (h : Q s.store) : Q (s.startJob j).store := by
  unfold State.startJob
  split
  · simpa using h
  · unfold State.startWithout
    split
    · simpa using h
    · exact State.endJob_stable hQ _ _ h

theorem State.refill_stable (hQ : PinStable Q) (fuel : Nat) {s : State} (h : Q s.store) : Q (State.refill fuel s).store := by
  induction fuel generalizing s with
  | zero => exact h
  | succ n ih =>
    unfold State.refill
    repeat' split
    all_goals first
      | exact h
      | (exact ih (State.startJob_stable hQ _ h))
      | simpa using h

theorem State.engineTurn_stable (hQ : PinStable Q) {s : State} (h : Q s.store) : Q s.engineTurn.store :=
  State.refill_stable hQ _ h

theorem State.cancel_stable (hQ : PinStable Q) {s : State} (j : Job) (h : Q s.store) : Q (s.cancel j).store := by
  unfold State.cancel
  split
  · simpa using h
  all_goals first | exact State.endJob_stable hQ _ _ h | exact h

theorem State.handOver_stable (hQ : PinStable Q) {s : State} (e : ExposureRec) (r : Resolution) (h : Q s.store) :
    Q (s.handOver e r).store :=
  foldl_invariant (P := fun s => Q s.store)
    (fun s n h => State.pin_stable hQ (s := s.updateJob n _) r.ref (by simpa using h)) _ h

theorem State.resolve_stable (hQ : PinStable Q) {s : State} (e : ExposureRec) (a m : Stamp) (v : Verdict) (h : Q s.store) :
    Q (s.resolve e a m v).store := by
  unfold State.resolve
  dsimp only
  exact State.handOver_stable hQ _ _ (State.pin_stable hQ (s := s.updateExposure e.seq _) _ (by simpa using h))

theorem State.retryAll_stable (hQ : PinStable Q) {s : State} (h : Q s.store) : Q s.retryAll.store := by
  refine foldl_invariant (P := fun s => Q s.store) (fun s e h => ?_) _ h
  unfold State.retry
  repeat' split
  all_goals first | exact h | exact State.resolve_stable hQ _ _ _ _ h

theorem State.detachAll_stable (hQ : PinStable Q) {s : State} (h : Q s.store) : Q s.detachAll.store := by
  refine foldl_invariant (P := fun s => Q s.store) (fun s e h => ?_) _ h
  unfold State.detachRecord
  repeat' split
  all_goals first | exact h | exact State.resolve_stable hQ _ _ _ _ h

theorem State.detachLens_stable (hQ : PinStable Q) {s : State} (h : Q s.store) : Q s.detachLens.store := by
  unfold State.detachLens
  simp only [State.raiseLensChanged_keeps]
  exact State.detachAll_stable hQ (by simpa using h)

theorem State.takeReport_stable (hQ : PinStable Q) {s : State} (r : Report) (h : Q s.store) : Q (s.takeReport r).store := by
  unfold State.takeReport
  exact State.retryAll_stable hQ (by simpa using h)

theorem State.dropOldest_stable (hQ : PinStable Q) {s : State} (h : Q s.store) : Q s.dropOldest.store := by
  unfold State.dropOldest
  split
  · exact h
  · dsimp only
    have hu := State.unpin_stable hQ (s := s) (ExposureRec.ref ‹_›) h
    split
    · simpa using foldl_invariant (P := fun s => Q s.store) (fun s n h => State.endJob_stable hQ n _ h) _ hu
    · simpa using hu

theorem State.startExposure_stable (hQ : PinStable Q) {s : State} (t : Stamp) (h : Q s.store) : Q (s.startExposure t).store := by
  unfold State.startExposure State.makeRoom
  split
  · simpa using State.dropOldest_stable hQ (s := s.abandonOpen) (by simpa using h)
  · simpa using h

theorem State.takeEnd_stable (hQ : PinStable Q) {s : State} (t : Stamp) (h : Q s.store) : Q (s.takeEnd t).store := by
  unfold State.takeEnd
  repeat' split
  all_goals try exact h
  unfold State.endExposure
  dsimp only
  split
  · exact State.resolve_stable hQ _ _ _ _ h
  · simpa using h

theorem State.flushStream_stable (hQ : PinStable Q) {s : State} (i : StreamId) (h : Q s.store) : Q (s.flushStream i).store := by
  unfold State.flushStream
  simp only [State.drainHalt_keeps]
  exact foldl_invariant (P := fun s => Q s.store) (fun s j h => State.cancel_stable hQ j h) _ (by simpa using h)

theorem State.supersede_stable (hQ : PinStable Q) {s : State} (i : StreamId) (h : Q s.store) : Q (s.supersede i).store := by
  cases i
  · exact h
  · exact foldl_invariant (P := fun s => Q s.store) (fun s (j : Job) h => State.endJob_stable hQ j.number _ h) _ h

theorem State.enter_stable (hQ : PinStable Q) {s : State} (x : Submission) (e : ExposureRec) (h : Q s.store) :
    Q (s.enter x e).store := by
  unfold State.enter
  split
  · exact State.pin_stable hQ (s := s.addEntry _) _ (by simpa using h)
  all_goals simpa using h

theorem State.cancelPortJobs_stable (hQ : PinStable Q) {s : State} (p : Port) (h : Q s.store) : Q (s.cancelPortJobs p).store :=
  foldl_invariant (P := fun s => Q s.store)
    (fun s j h => State.cancel_stable hQ (s := s.updateJob j.number _) j (by simpa using h)) _ h

theorem State.grantMemory_stable (hQ : PinStable Q) {s : State} (h : Q s.store) : Q s.grantMemory.store := by
  unfold State.grantMemory
  split
  · unfold State.resumePaused
    split
    · exact State.engineTurn_stable hQ (by simpa using h)
    · simpa using h
  · exact State.engineTurn_stable hQ (by simpa using h)
  · simpa using h

theorem State.boundary_stable (hQ : PinStable Q) {s : State} (c : Context) (j : Job) (b : Bool) (h : Q s.store) :
    Q (s.boundary c j b).store := by
  unfold State.boundary
  have h1 : Q ((s.countBand c b).boundaryCancel j).store := by
    unfold State.boundaryCancel
    split
    · exact State.endJob_stable hQ _ _ (by simpa using h)
    · simpa using h
  refine State.engineTurn_stable hQ ?_
  unfold State.boundaryComplete
  repeat' split
  all_goals first | (exact State.endJob_stable hQ _ _ (by simpa using h1)) | simpa using h1

theorem State.fail_stable (hQ : PinStable Q) {s : State} (j : Job) (h : Q s.store) : Q (s.fail j).store := by
  unfold State.fail
  exact State.engineTurn_stable hQ (by simpa using State.endJob_stable hQ j.number .failedMemoryFault h)

end Sys2Proof.Machine
end

