-- ==== Sys2Proof/Laws/Requests.lean ====
section
/-! SUPPORT. What a request that its port takes comes to: the owner's reply placed on the state it leaves, with no trace of the
request in progress (R168). -/

namespace Sys2Proof.Machine

/-- A request that reaches its owner. -/
theorem request_taken {k : ReqKind} {h : Hdr} {owner : State → Taken} {s : State} (ht : Takes k h s) :
    request k h owner s =
      .next (((owner (s.startRequest h.port k.byte h.tag)).finish h.port k.byte h.tag).send h.port .zeros) := by
  obtain ⟨hl, hp, hb, he⟩ := ht
  simp [request, takeFrame, hl, checkedOwner, hp, hb, he]

/-- R166: a frame on a port in RESET. -/
theorem request_reset {k : ReqKind} {h : Hdr} {owner : State → Taken} {s : State} (hl : (s.port h.port).link = .reset) :
    request k h owner s = .next (s.send h.port .zeros) := by simp [request, takeFrame, hl, State.discard_reset hl]

/-- R176: a frame of an early transaction. -/
theorem request_early {k : ReqKind} {h : Hdr} {owner : State → Taken} {s : State} (he : h.early = true) :
    request k h owner s = .next (s.send h.port .zeros) := by simp [request, takeFrame, he]

/-- R166: a frame on a port that is not IDLE. -/
theorem request_busy {k : ReqKind} {h : Hdr} {owner : State → Taken} {s : State} (he : h.early = false)
    (hl : (s.port h.port).link = .inProgress ∨ (s.port h.port).link = .responseWaiting) :
    request k h owner s = .next ((s.raise h.port (.protocolError 1)).send h.port .zeros) := by
  rcases hl with hl | hl <;>
    simp [request, takeFrame, hl, he, State.discard_raises, State.raiseProtocolError]

theorem request_notPermitted {k : ReqKind} {h : Hdr} {owner : State → Taken} {s : State} (he : h.early = false)
    (hl : (s.port h.port).link = .idle) (hp : k.permitted h.port = false) :
    request k h owner s = refusedWith k h s .notPermitted .none := by
  simp [request, takeFrame, hl, he, checkedOwner, hp, refuse, Taken.finish, refusedWith, State.answered]

theorem request_badLength {k : ReqKind} {h : Hdr} {owner : State → Taken} {s : State} (he : h.early = false)
    (hl : (s.port h.port).link = .idle) (hp : k.permitted h.port = true) (hb : h.badLength = true) :
    request k h owner s = refusedWith k h s .badLength .none := by
  simp [request, takeFrame, hl, he, checkedOwner, hp, hb, refuse, Taken.finish, refusedWith, State.answered]

@[simp] theorem finish_refuse (s : State) (c : Code) (h : Hdr) (k : ReqKind) :
    ((refuse s c).finish h.port k.byte h.tag).send h.port .zeros = s.answered k h c .none := rfl

@[simp] theorem finish_refuseWith (s : State) (c : Code) (a : Answer) (h : Hdr) (k : ReqKind) :
    ((refuseWith s c a).finish h.port k.byte h.tag).send h.port .zeros = s.answered k h c a := rfl

@[simp] theorem finish_answerOk (s : State) (a : Answer) (h : Hdr) (k : ReqKind) :
    ((answerOk s a).finish h.port k.byte h.tag).send h.port .zeros = s.answered k h .ok a := rfl

/-- R166: whatever comes of a request, its port has sent 0x00 bytes, when its owner sends nothing. -/
theorem request_wire {k : ReqKind} {h : Hdr} {owner : State → Taken} {s t : State}
    (howner : ∀ s, (owner s).state.wire = s.wire) (ht : request k h owner s = .next t) :
    t.wire = s.wire.set h.port .zeros := by
  simp only [request, Host.Outcome.next.injEq] at ht
  subst ht
  unfold takeFrame
  simp only [State.send_wire]
  congr 1
  split
  · have hc : ∀ u, (checkedOwner k h owner u).state.wire = u.wire := by
      intro u
      unfold checkedOwner
      repeat' split
      · rfl
      · exact howner u
      · rfl
    unfold Taken.finish
    split <;> simp [hc]
  · simp

theorem refusedWith_eq (k : ReqKind) (h : Hdr) (s : State) (c : Code) (a : Answer) :
    refusedWith k h s c a = .next (s.answered k h c a) := rfl

/-- The response replaces the request in progress. -/
@[simp] theorem answered_startRequest (s : State) (k : ReqKind) (h : Hdr) (c : Code) (a : Answer) (kind tag : Byte) :
    (s.startRequest h.port kind tag).answered k h c a = s.answered k h c a := by simp [State.answered]

@[simp] theorem answered_port (s : State) (k : ReqKind) (h : Hdr) (c : Code) (a : Answer) :
    (s.answered k h c a).port h.port = { s.port h.port with
      link := .responseWaiting, request := none,
      response := some { kind := k.byte, tag := h.tag, code := c, answer := a } } := by simp [State.answered]

theorem answered_port_other (s : State) (k : ReqKind) (h : Hdr) (c : Code) (a : Answer) (q : Port) (hq : q ≠ h.port) :
    (s.answered k h c a).port q = s.port q := by simp [State.answered, State.place_port_other _ _ _ _ hq]

@[simp] theorem answered_notices (s : State) (k : ReqKind) (h : Hdr) (c : Code) (a : Answer) (q : Port) :
    (s.answered k h c a).notices q = s.notices q := by
  unfold State.notices
  by_cases hq : q = h.port
  · subst hq; simp
  · rw [answered_port_other _ _ _ _ _ _ hq]

theorem hasAnswer_answered (s : State) (k : ReqKind) (h : Hdr) (c : Code) (a : Answer) :
    (s.answered k h c a).hasAnswer k h c a := by simp [State.hasAnswer]

@[simp] theorem answered_keeps (s : State) (k : ReqKind) (h : Hdr) (c : Code) (a : Answer) :
    (s.answered k h c a).pending = s.pending ∧
    (s.answered k h c a).timebase = s.timebase ∧
    (s.answered k h c a).power = s.power ∧
    (s.answered k h c a).resetCtl = s.resetCtl ∧
    (s.answered k h c a).store = s.store ∧
    (s.answered k h c a).edits = s.edits ∧
    (s.answered k h c a).tracker = s.tracker ∧
    (s.answered k h c a).exposure = s.exposure ∧
    (s.answered k h c a).jobs = s.jobs ∧
    (s.answered k h c a).engine = s.engine ∧
    (s.answered k h c a).memPort = s.memPort ∧
    (s.answered k h c a).records = s.records ∧
    (s.answered k h c a).frameMem = s.frameMem ∧
    (s.answered k h c a).wire = s.wire.set h.port .zeros ∧
    (s.answered k h c a).freeCount = s.freeCount := by
  simp [State.answered]

@[simp] theorem answered_withPending_startRequest (s : State) (x : List Instr) (k : ReqKind) (h : Hdr) (c : Code) (a : Answer)
    (kind tag : Byte) : ((s.startRequest h.port kind tag).withPending x).answered k h c a = (s.withPending x).answered k h c a := by
  cases h with | mk p _ _ _ => cases p <;> rfl

@[simp] theorem answered_withTimebase_startRequest (s : State) (x : Stamp) (k : ReqKind) (h : Hdr) (c : Code) (a : Answer)
    (kind tag : Byte) : ((s.startRequest h.port kind tag).withTimebase x).answered k h c a = (s.withTimebase x).answered k h c a := by
  cases h with | mk p _ _ _ => cases p <;> rfl

@[simp] theorem answered_withPower_startRequest (s : State) (x : Power) (k : ReqKind) (h : Hdr) (c : Code) (a : Answer)
    (kind tag : Byte) : ((s.startRequest h.port kind tag).withPower x).answered k h c a = (s.withPower x).answered k h c a := by
  cases h with | mk p _ _ _ => cases p <;> rfl

@[simp] theorem answered_withResetCtl_startRequest (s : State) (x : ResetCtl) (k : ReqKind) (h : Hdr) (c : Code) (a : Answer)
    (kind tag : Byte) : ((s.startRequest h.port kind tag).withResetCtl x).answered k h c a = (s.withResetCtl x).answered k h c a := by
  cases h with | mk p _ _ _ => cases p <;> rfl

@[simp] theorem answered_withStore_startRequest (s : State) (x : Store) (k : ReqKind) (h : Hdr) (c : Code) (a : Answer)
    (kind tag : Byte) : ((s.startRequest h.port kind tag).withStore x).answered k h c a = (s.withStore x).answered k h c a := by
  cases h with | mk p _ _ _ => cases p <;> rfl

@[simp] theorem answered_withEdits_startRequest (s : State) (x : Edits) (k : ReqKind) (h : Hdr) (c : Code) (a : Answer)
    (kind tag : Byte) : ((s.startRequest h.port kind tag).withEdits x).answered k h c a = (s.withEdits x).answered k h c a := by
  cases h with | mk p _ _ _ => cases p <;> rfl

@[simp] theorem answered_withTracker_startRequest (s : State) (x : Tracker) (k : ReqKind) (h : Hdr) (c : Code) (a : Answer)
    (kind tag : Byte) : ((s.startRequest h.port kind tag).withTracker x).answered k h c a = (s.withTracker x).answered k h c a := by
  cases h with | mk p _ _ _ => cases p <;> rfl

@[simp] theorem answered_withExposure_startRequest (s : State) (x : ExposureUnit) (k : ReqKind) (h : Hdr) (c : Code) (a : Answer)
    (kind tag : Byte) : ((s.startRequest h.port kind tag).withExposure x).answered k h c a = (s.withExposure x).answered k h c a := by
  cases h with | mk p _ _ _ => cases p <;> rfl

@[simp] theorem answered_withJobs_startRequest (s : State) (x : JobManager) (k : ReqKind) (h : Hdr) (c : Code) (a : Answer)
    (kind tag : Byte) : ((s.startRequest h.port kind tag).withJobs x).answered k h c a = (s.withJobs x).answered k h c a := by
  cases h with | mk p _ _ _ => cases p <;> rfl

@[simp] theorem answered_withEngine_startRequest (s : State) (x : Engine) (k : ReqKind) (h : Hdr) (c : Code) (a : Answer)
    (kind tag : Byte) : ((s.startRequest h.port kind tag).withEngine x).answered k h c a = (s.withEngine x).answered k h c a := by
  cases h with | mk p _ _ _ => cases p <;> rfl

@[simp] theorem answered_withMemPort_startRequest (s : State) (x : MemPort) (k : ReqKind) (h : Hdr) (c : Code) (a : Answer)
    (kind tag : Byte) : ((s.startRequest h.port kind tag).withMemPort x).answered k h c a = (s.withMemPort x).answered k h c a := by
  cases h with | mk p _ _ _ => cases p <;> rfl

@[simp] theorem answered_withRecords_startRequest (s : State) (x : List FrameRecord) (k : ReqKind) (h : Hdr) (c : Code) (a : Answer)
    (kind tag : Byte) : ((s.startRequest h.port kind tag).withRecords x).answered k h c a = (s.withRecords x).answered k h c a := by
  cases h with | mk p _ _ _ => cases p <;> rfl

@[simp] theorem answered_withFrameMem_startRequest (s : State) (x : Memory) (k : ReqKind) (h : Hdr) (c : Code) (a : Answer)
    (kind tag : Byte) : ((s.startRequest h.port kind tag).withFrameMem x).answered k h c a = (s.withFrameMem x).answered k h c a := by
  cases h with | mk p _ _ _ => cases p <;> rfl

@[simp] theorem answered_withWire_startRequest (s : State) (x : Wire) (k : ReqKind) (h : Hdr) (c : Code) (a : Answer)
    (kind tag : Byte) : ((s.startRequest h.port kind tag).withWire x).answered k h c a = (s.withWire x).answered k h c a := by
  cases h with | mk p _ _ _ => cases p <;> rfl

@[simp] theorem answered_withFreeCount_startRequest (s : State) (x : Nat) (k : ReqKind) (h : Hdr) (c : Code) (a : Answer)
    (kind tag : Byte) : ((s.startRequest h.port kind tag).withFreeCount x).answered k h c a = (s.withFreeCount x).answered k h c a := by
  cases h with | mk p _ _ _ => cases p <;> rfl

/-- A change of another port field beside the response. -/
@[simp] theorem answered_setPort_startRequest (s : State) (f : PortRec → PortRec) (k : ReqKind) (h : Hdr) (c : Code) (a : Answer)
    (kind tag : Byte) : ((s.startRequest h.port kind tag).setPort h.port (f ((s.startRequest h.port kind tag).port h.port))).answered
      k h c a = (s.setPort h.port (f ((s.startRequest h.port kind tag).port h.port))).answered k h c a := by
  cases h with | mk p _ _ _ => cases p <;> rfl

end Sys2Proof.Machine
end

