-- ==== Sys2Proof/Laws/StoreCommands.lean ====
section
/-! SUPPORT. The commands that change the store by pins and releases alone, or return it to its reset value: all but the requests
that edit profiles, DELETE PROFILE and RESET PORT. -/

namespace Sys2Proof.Machine

/-- The commands that can write profile content or remove a version from service. -/
def editsStore : Instr → Bool
  | .openEdit _ _ _ _ _ _ | .writeNodes _ _ | .writeChroma _ _ | .writeCrop _ _ | .commitEdit _ | .abortEdit _
  | .deleteProfile _ _ | .resetPort _ => true
  | _ => false

/-- The commands that can reset the part. -/
def mayReset : Instr → Bool
  | .readTransaction _ _ | .reset | .resetEnd => true
  | _ => false

/-- The read-out of a response changes no store, or begins a reset. -/
theorem State.sendResponse_store (s : State) (p : Port) (x : ReadExtent) (r : Response) :
    (s.sendResponse p x r).store = s.store ∨ (s.sendResponse p x r).store = State.reset.store := by
  unfold State.sendResponse
  dsimp only
  repeat' split
  · exact .inr rfl
  · exact .inl (by simp)
  · exact .inl (by simp)

/-- A property of stores that pins and releases keep and that the reset store has (where the command can reset the
part) is kept by all these commands. -/
theorem exec_store_stable {Q : Store → Prop} (hQ : PinStable Q) {c : Instr} {s t : State}
    (hr : mayReset c = true → Q State.reset.store) (hc : editsStore c = false) (h : exec c s = .next t) (hs : Q s.store) : Q t.store := by
  have hp : ∀ (s : State) p r, Q s.store → Q (s.setPort p r).store := by simp
  have hw : ∀ (s : State) p x, Q s.store → Q (State.send s p x).store := by simp
  have same : t.store = s.store → Q t.store := fun e => e ▸ hs
  cases c <;> first | (simp only [editsStore, reduceCtorEq] at hc; done) | skip
  all_goals simp only [exec] at h
  case queryTime => exact same (by simp [execQueryTime_keeps h])
  case fetchNotices => exact same (by simp [execFetchNotices_keeps h])
  case setNoticeMask => exact same (by simp [execSetNoticeMask_keeps h])
  case queryLens => exact same (by simp [execQueryLens_keeps h])
  case resetPart => exact same (by simp [execResetPart_keeps h])
  case setLensTiming => exact same (by simp [execSetLensTiming_keeps h])
  case readProfile => exact same (by simp [execReadProfile_keeps h])
  case readNode => exact same (by simp [execReadNode_keeps h])
  case queryStore => exact same (by simp [execQueryStore_keeps h])
  case queryExposure => exact same (by simp [execQueryExposure_keeps h])
  case configureStream => exact same (by simp [execConfigureStream_keeps h])
  case startStream => exact same (by simp [execStartStream_keeps h])
  case stopStreamDrain => exact same (by simp [execStopStreamDrain_keeps h])
  case queryStream => exact same (by simp [execQueryStream_keeps h])
  case queryJob => exact same (by simp [execQueryJob_keeps h])
  case setWindow => exact same (by simp [execSetWindow_keeps h])
  case withdrawMemory => exact same (by simp [execWithdrawMemory_keeps h])
  case setPauseLimit => exact same (by simp [execSetPauseLimit_keeps h])
  case queryMemory => exact same (by simp [execQueryMemory_keeps h])
  case readRecords => exact same (by simp [execReadRecords_keeps h])
  case standby => exact same (by simp [execStandby_keeps h])
  case wake => exact same (by simp [execWake_keeps h])
  case frameError => exact same (by simp [execFrameError_keeps h])
  case unknownKind => exact same (by simp [execUnknownKind_keeps h])
  case writeTransactionDiscarded => exact same (by simp [execWriteTransactionDiscarded_keeps h])
  case invalidOpeningByte => exact same (by simp [execInvalidOpeningByte_keeps h])
  case triggerRisingEdge => exact same (by simp [execTriggerRisingEdge_keeps h])
  case triggerFallingEdge => exact same (by simp [execTriggerFallingEdge_keeps h])
  case openLimitExpiry => exact same (by simp [execOpenLimitExpiry_keeps h])
  case reportAged => exact same (by simp [execReportAged_keeps h])
  case lensAttached =>
    refine request_invariant (P := fun s => Q s.store) hp hw (fun s hs => ?_) hs h
    unfold ownLensAttached
    split
    · exact hs
    · dsimp only [answerOk]
      refine State.engineTurn_stable hQ ?_
      simp only [State.attachLens_keeps]
      split
      · exact State.detachLens_stable hQ hs
      · exact hs
  case lensDetached =>
    refine request_invariant (P := fun s => Q s.store) hp hw (fun s hs => ?_) hs h
    unfold ownLensDetached
    split
    · exact hs
    · dsimp only [answerOk]
      refine State.engineTurn_stable hQ ?_
      exact State.detachLens_stable hQ hs
  case lensState =>
    refine request_invariant (P := fun s => Q s.store) hp hw (fun s hs => ?_) hs h
    unfold ownLensState
    repeat' split
    all_goals try exact hs
    exact State.engineTurn_stable hQ (State.takeReport_stable hQ _ hs)
  case stopStreamFlush =>
    refine request_invariant (P := fun s => Q s.store) hp hw (fun s hs => ?_) hs h
    unfold ownStopStreamFlush
    repeat' split
    all_goals simp only [refuse_state, refuseWith_state, answerOk_state]
    all_goals first | with_reducible exact hs | exact State.engineTurn_stable hQ (State.flushStream_stable hQ _ hs)
  case submitFrame =>
    refine request_invariant (P := fun s => Q s.store) hp hw (fun s hs => ?_) hs h
    unfold ownSubmitFrame
    repeat' split
    all_goals simp only [refuse_state, refuseWith_state, answerOk_state]
    all_goals try with_reducible exact hs
    refine State.engineTurn_stable hQ ?_
    simpa using State.enter_stable hQ _ _ (State.supersede_stable hQ _ hs)
  case cancelJob =>
    refine request_invariant (P := fun s => Q s.store) hp hw (fun s hs => ?_) hs h
    unfold ownCancelJob
    repeat' split
    all_goals simp only [refuse_state, refuseWith_state, answerOk_state]
    all_goals first
      | with_reducible exact hs
      | exact State.cancel_stable hQ _ hs
      | exact State.engineTurn_stable hQ (State.cancel_stable hQ _ hs)
  case grantMemory =>
    refine request_invariant (P := fun s => Q s.store) hp hw (fun s hs => ?_) hs h
    unfold ownGrantMemory
    split
    · exact hs
    · exact State.grantMemory_stable hQ hs
  case submitUrgent =>
    refine request_invariant (P := fun s => Q s.store) hp hw (fun s hs => ?_) hs h
    unfold ownSubmitUrgent urgentWith
    repeat' split
    all_goals simp only [refuse_state, refuseWith_state, answerOk_state]
    all_goals try with_reducible exact hs
    refine State.engineTurn_stable hQ ?_
    simpa using State.pin_stable hQ (s := s.addEntry _) _ (by simpa using hs)
  case readTransaction x extent =>
    unfold execReadTransaction at h
    repeat' split at h
    all_goals cases h
    · simpa using hs
    · next r _ _ =>
      rcases State.sendResponse_store s x.port extent r with e | e
      · rw [e]; exact hs
      · rw [e]; exact hr rfl
    · simpa using hs
  case exps =>
    unfold execExps at h
    split at h <;> cases h
    · exact hs
    · exact State.engineTurn_stable hQ (State.startExposure_stable hQ _ (by simpa using hs))
  case expe =>
    unfold execExpe at h
    split at h <;> cases h
    · exact hs
    · exact State.engineTurn_stable hQ (State.takeEnd_stable hQ _ (by simpa using hs))
  case resolveDeadlineExpiry =>
    unfold execResolveDeadlineExpiry at h
    repeat' split at h
    all_goals cases h
    all_goals first | with_reducible exact hs | exact State.engineTurn_stable hQ (State.resolve_stable hQ _ _ _ _ hs)
  case pauseTimerExpiry =>
    unfold execPauseTimerExpiry at h
    repeat' split at h
    all_goals cases h
    all_goals first | with_reducible exact hs | exact State.engineTurn_stable hQ (State.endJob_stable hQ _ _ (by simpa using hs))
  case wakeTimerExpiry =>
    unfold execWakeTimerExpiry at h
    repeat' split at h
    all_goals cases h
    all_goals first | with_reducible exact hs | exact State.engineTurn_stable hQ (by simpa using hs)
  case bandBoundary =>
    unfold execBandBoundary at h
    dsimp only at h
    repeat' split at h
    all_goals cases h
    all_goals first | with_reducible exact hs | skip
    simp only [State.answerHeld_keeps]
    exact State.boundary_stable hQ _ _ _ (by simpa using hs)
  case busError =>
    unfold execBusError at h
    dsimp only at h
    repeat' split at h
    all_goals cases h
    all_goals first | with_reducible exact hs | skip
    simp only [State.answerHeld_keeps]
    exact State.fail_stable hQ _ (by simpa using hs)
  case reset => cases h; exact hr rfl
  case resetEnd =>
    unfold execResetEnd at h
    repeat' split at h
    all_goals cases h
    all_goals first | exact hr rfl | simpa using hs

end Sys2Proof.Machine
end

