-- ==== Sys2Proof/Laws/Timebase.lean ====
section
/-! SUPPORT. What joins the queue when a microsecond passes (R181): exactly what is due, whatever the order. -/

namespace Sys2Proof.Machine

/-- An order loses nothing and adds nothing. -/
theorem mem_arrange (n : Nat) (l : List Instr) (c : Instr) : c ∈ arrange n l ↔ c ∈ l := by
  induction l generalizing n with
  | nil => simp [arrange]
  | cons a l ih =>
    simp only [arrange, List.mem_append, List.mem_cons]
    rw [← ih (n / (l.length + 1))]
    conv_rhs => rw [← List.take_append_drop (n % (l.length + 1)) (arrange (n / (l.length + 1)) l)]
    simp only [List.mem_append]; tauto

theorem mem_enqueue (s : State) (l : List Instr) (c : Instr) (h : s.pending = []) : c ∈ (s.enqueue l).pending ↔ c ∈ l := by
  unfold State.enqueue
  split
  · simp [h]
  · simp
  · simp [mem_arrange]

theorem mem_dueWhen (b : Bool) (c d : Instr) : d ∈ dueWhen b c ↔ b = true ∧ d = c := by
  unfold dueWhen; cases b <;> simp

theorem mem_deadlinesDue (s : State) (c : Instr) : c ∈ s.deadlinesDue ↔
    ∃ e ∈ s.exposure.log, (∃ x m d, e.state = .awaiting x m d ∧ reached s.timebase d = true) ∧
      c = .resolveDeadlineExpiry e.seq := by
  simp only [State.deadlinesDue, List.mem_flatMap]
  refine exists_congr fun e => and_congr_right fun _ => ?_
  split <;> simp_all [mem_dueWhen]

/-- What is due, event by event. -/
theorem mem_due (s : State) (c : Instr) : c ∈ s.due ↔
    ((s.qualified .exps).isSome = true ∧ c = .exps) ∨ ((s.qualified .expe).isSome = true ∧ c = .expe) ∨
    (s.openLimitDue = true ∧ c = .openLimitExpiry) ∨ c ∈ s.deadlinesDue ∨ (s.pauseDue = true ∧ c = .pauseTimerExpiry) ∨
    (s.wakeDue = true ∧ c = .wakeTimerExpiry) ∨ (s.tracker.history.any s.ageDue = true ∧ c = .reportAged) := by
  simp only [State.due, List.mem_append, mem_dueWhen, or_assoc]

end Sys2Proof.Machine
end

