-- ==== Sys2Proof/Tests/Slice0.lean ====
section
/-! SUPPORT. Tests: ill-formed commands, the numbers the spec works out, at most two small steps for each command, and a witness for
the hypotheses of each statement. -/

namespace Sys2Proof.Tests

open Sys2Proof Sys2Proof.Machine

/-! ### Commands that are not well formed -/

def bodyHdr : Hdr := { port := .body, tag := 7, badLength := false, early := false }
def mountHdr : Hdr := { port := .mount, tag := 8, badLength := false, early := false }
def deskHdr : Hdr := { port := .transmitter, tag := 9, badLength := false, early := false }

/-- A transaction of the Body Port, and one that opened before the last reset was over. -/
def bodyLink : Transaction := { port := .body, early := false }
def lateLink : Transaction := { port := .body, early := true }
def mountLink : Transaction := { port := .mount, early := false }

def smallNode : NodeRecord := { nominal := 500, focus := 0, trueFocal := 501, k1 := -41943, k2 := 0, k3 := 0 }
def noTerms : ChromaTerms := { redLinear := 0, redCubic := 0, blueLinear := 0, blueCubic := 0 }
def black : Rgb := { red := 0, green := 0, blue := 0 }
def at0 : Descriptor := { address := 0, pitch := 192 }
def at4096 : Descriptor := { address := 4096, pitch := 192 }

def smallArgs : StreamArgs :=
  { format := .is .rgb24, srcWidth := 64, srcHeight := 16, outWidth := 64, outHeight := 16, border := .is .edge, fill := black,
    policy := .is .pass, crop := .is .profile }

def pickArgs : UrgentArgs :=
  { seq := 1, source := at0, dest := at4096, outWidth := 64, outHeight := 16, format := .is .rgb24, border := .is .edge,
    fill := black, crop := .is .profile, fallback := .is .reject }

theorem test_wf_good : (Instr.writeNodes bodyHdr [smallNode]).wf && (Instr.submitFrame bodyHdr (.is .still) 1 at0 at4096).wf &&
    (Instr.submitUrgent deskHdr pickArgs).wf && (Instr.configureStream bodyHdr (.is .still) smallArgs).wf &&
    (Instr.writeChroma bodyHdr [{ index := 0, terms := noTerms }]).wf && (Instr.setWindow bodyHdr 0 64).wf = true := by decide

theorem test_wf_nodeNominal : (Instr.writeNodes bodyHdr [{ smallNode with nominal := 65536 }]).wf = false := by decide
theorem test_wf_nodeFocus : (Instr.writeNodes bodyHdr [{ smallNode with focus := 65536 }]).wf = false := by decide
theorem test_wf_nodeTrueFocal : (Instr.writeNodes bodyHdr [{ smallNode with trueFocal := 65536 }]).wf = false := by decide
theorem test_wf_nodeK1 : (Instr.writeNodes bodyHdr [{ smallNode with k1 := 2147483648 }]).wf = false := by decide
theorem test_wf_nodeK2 : (Instr.writeNodes bodyHdr [{ smallNode with k2 := -2147483649 }]).wf = false := by decide
theorem test_wf_nodeK3 : (Instr.writeNodes bodyHdr [{ smallNode with k3 := 2147483648 }]).wf = false := by decide
theorem test_wf_chromaIndex : (Instr.writeChroma bodyHdr [{ index := 256, terms := noTerms }]).wf = false := by decide
theorem test_wf_chromaTerms :
    ([{ noTerms with redLinear := 2147483648 }, { noTerms with redCubic := -2147483649 },
      { noTerms with blueLinear := 2147483648 }, { noTerms with blueCubic := 2147483648 }].all fun t =>
      !(Instr.writeChroma bodyHdr [{ index := 0, terms := t }]).wf) = true := by decide
theorem test_wf_streamSizes :
    ([{ smallArgs with srcWidth := 65536 }, { smallArgs with srcHeight := 65536 }, { smallArgs with outWidth := 65536 },
      { smallArgs with outHeight := 65536 }].all fun a => !(Instr.configureStream bodyHdr (.is .still) a).wf) = true := by decide
theorem test_wf_streamFill :
    ([{ black with red := 65536 }, { black with green := 65536 }, { black with blue := 65536 }].all fun c =>
      !(Instr.configureStream bodyHdr (.is .still) { smallArgs with fill := c }).wf) = true := by decide
theorem test_wf_submitSeq : (Instr.submitFrame bodyHdr (.is .still) 65536 at0 at4096).wf = false := by decide
theorem test_wf_submitDescriptors :
    (Instr.submitFrame bodyHdr (.is .still) 1 { address := 4294967296, pitch := 0 } at4096).wf ||
      (Instr.submitFrame bodyHdr (.is .still) 1 at0 { address := 0, pitch := 4294967296 }).wf = false := by decide
theorem test_wf_urgent :
    ([{ pickArgs with seq := 65536 }, { pickArgs with source := { at0 with address := 4294967296 } },
      { pickArgs with dest := { at0 with pitch := 4294967296 } }].all fun a => !(Instr.submitUrgent deskHdr a).wf) = true := by
  decide
theorem test_wf_numbers :
    ([Instr.queryExposure bodyHdr 65536, .queryJob bodyHdr 65536, .cancelJob bodyHdr 65536, .readRecords deskHdr 65536 1,
      .resolveDeadlineExpiry 65536].all fun c => !c.wf) = true := by decide
theorem test_wf_window :
    (Instr.setWindow bodyHdr 4294967296 64).wf || (Instr.setWindow bodyHdr 0 4294967297).wf = false := by decide
theorem test_wf_unknownKind : (Instr.unknownKind bodyLink 1 0).wf || (Instr.unknownKind bodyLink 37 0).wf = false := by decide
theorem test_wf_openingByte :
    (Instr.invalidOpeningByte bodyLink 0x5A).wf || (Instr.invalidOpeningByte bodyLink 0xA5).wf = false := by decide

/-! ### Frames (R167, R169, R177 to R179) -/

/-- R167: the CRC of the characters 1 to 9. -/
theorem test_crc : crc [0x31, 0x32, 0x33, 0x34, 0x35, 0x36, 0x37, 0x38, 0x39] = 0x29B1 := by decide +kernel

/-- R167: a frame cut short, one with a wrong CRC, one with a length above 120, and a good one with a byte after it. -/
theorem test_receive :
    receive [0, 1, 7] = .damaged ∧ receive [0, 1, 7, 0, 0] = .damaged ∧ receive (121 :: List.replicate 200 0) = .damaged ∧
      receive (frameBytes 1 7 [] ++ [0xFF]) = .frame 1 7 [] ∧ receive [] = .nothing := by decide +kernel

/-- R177, R178: lower bytes first, two's complement, and 18 bytes of a node record. -/
theorem test_nodeBytes : nodeBytes smallNode =
    [0xF4, 0x01, 0, 0, 0xF5, 0x01, 0x29, 0x5C, 0xFF, 0xFF, 0, 0, 0, 0, 0, 0, 0, 0] := by decide +kernel

/-- R178: the command that the bytes of a SUBMIT FRAME spell. -/
theorem test_submitFrameBytes :
    commandOf .body (frameBytes 26 7 [1, 0x2C, 0x01, 0, 0x10, 0, 0, 0xC0, 0, 0, 0, 0, 0x20, 0, 0, 0xC0, 0, 0, 0]) =
      some (.submitFrame bodyHdr (.is .still) 300 at4096 { address := 8192, pitch := 192 }) := by decide +kernel

/-- R170: a kind that names no request, and a body of a wrong length. -/
theorem test_commandOf :
    commandOf .body (frameBytes 38 7 []) = some (.unknownKind bodyLink 38 7) ∧
      commandOf .body (frameBytes 1 7 [0]) = some (.queryTime { bodyHdr with badLength := true }) := by decide +kernel

/-! ### The numbers the spec works out -/

/-- The four nodes of 5.4. -/
def zoomNodes : List NodeRecord :=
  [{ nominal := 1000, focus := 1000, trueFocal := 1003, k1 := -41943, k2 := 0, k3 := 0 },
   { nominal := 1000, focus := 3000, trueFocal := 1011, k1 := -39845, k2 := 0, k3 := 0 },
   { nominal := 1350, focus := 1000, trueFocal := 1355, k1 := -20972, k2 := 0, k3 := 0 },
   { nominal := 1350, focus := 3000, trueFocal := 1366, k1 := -18874, k2 := 0, k3 := 0 }]

/-- 5.4: true focal 1272 without clamping; with clamping in focus, and in focal. -/
theorem test_trueFocal :
    trueFocalAt zoomNodes 1260 2402 = (1272, false) ∧ (trueFocalAt zoomNodes 1260 4050).2 = true ∧
      trueFocalAt zoomNodes 2100 1000 = (1355, true) := by decide +kernel

/-- The version of 5.4: crop scale 1.125, and the pins its holders take in the state below. -/
def zoom : Version :=
  { number := 3, key := { model := 4120, converter := 0 }, cx := 6, cy := -3, nodes := zoomNodes, chroma := none,
    crop := some 18432, pins := 2 }

/-- 5.4: the working set under PROFILE, and its scale under NONE. -/
theorem test_workingSet :
    workingSetAt zoom 1260 2402 .profile =
      { k1 := -24894, k2 := 0, k3 := 0, chroma := noTerms, cx := 6, cy := -3, scale := 18432 } ∧
    (workingSetAt zoom 1260 2402 .none).scale = 16384 := by decide +kernel

/-- 12.1, rows 6 and 17: the lens states at two midpoints. -/
theorem test_blendReports :
    (blendReports { stamp := 7011000, lens := { nominal := 800, focus := 2000, aperture := 28 }, aged := false }
        { stamp := 7015000, lens := { nominal := 900, focus := 2004, aperture := 28 }, aged := false } 7012000).nominal = 825 ∧
    blendReports { stamp := 7056000, lens := { nominal := 1000, focus := 2006, aperture := 28 }, aged := false }
        { stamp := 7079000, lens := { nominal := 1100, focus := 2010, aperture := 28 }, aged := false } 7078666 =
      { nominal := 1099, focus := 2010, aperture := 28 } := by decide +kernel

def bigGeometry : Geometry :=
  { format := .rgb24, srcWidth := 4800, srcHeight := 3600, outWidth := 4800, outHeight := 3600, border := .edge, fill := black,
    policy := .pass, crop := .profile }

def fringe : WorkingSet :=
  { k1 := -32768, k2 := 0, k3 := 0, chroma := { noTerms with redLinear := 16384 }, cx := 0, cy := 0, scale := 16384 }

/-- 5.5: the green, red and blue points of pixel (3899, 1799), and the blended green sample. -/
theorem test_pixel :
    pixelPoints bigGeometry fringe 3899 1799 =
      { green := { x := 3887 * 64 + 19, y := 1799 * 64 }, red := { x := 3888 * 64 + 48, y := 1799 * 64 },
        blue := { x := 3887 * 64 + 19, y := 1799 * 64 } } ∧
    blendSamples 19 0 120 184 0 0 = 139 := by decide +kernel

def tallGeometry : Geometry := { bigGeometry with srcWidth := 6000, srcHeight := 4000, outWidth := 6000, outHeight := 4000 }

/-- 7.4, worked span: the lowest and the highest source line of band 0 at k1 = -0.1, and the ends of its top line at -0.2. -/
theorem test_span :
    let line := fun k1 x y => wholePart (pixelPoints tallGeometry { fringe with k1 := k1, chroma := noTerms } x y).green.y
    line (-104858) 2999 0 = 61 ∧ line (-104858) 0 0 = 199 ∧ line (-104858) 0 15 = 212 ∧ line (-209715) 2999 0 = 122 ∧
      line (-209715) 0 0 = 399 := by decide +kernel

/-- R127: the lowest 256 of 300 needed lines, and one line when none lies inside. -/
theorem test_fetchedLines :
    fetchedLines 4000 ((List.range 300).map fun k => (k : Int) + 100) = (List.range 256).map (· + 100) ∧
      fetchedLines 16 [-5, 20] = [0] ∧ fetchedLines 16 [16, 20] = [15] := by decide +kernel

def smallFrame : Geometry := { bigGeometry with srcWidth := 64, srcHeight := 16, fill := { red := 1, green := 2, blue := 3 } }

/-- R94: a sample inside the frame, one replaced by the nearest column and line, and one replaced by the fill colour; R151: the
lower byte of a wide sample at the lower address. -/
theorem test_sourceSample :
    let m : Memory := [(0, 5), (1, 6), (192, 7), (200, 9)]
    let g : Geometry := smallFrame
    let d : Descriptor := { address := 0, pitch := 192 }
    sourceSample m d g [0, 1] .red 0 1 = 7 ∧ sourceSample m d g [0, 1] .green (-3) (-1) = 6 ∧
      sourceSample m d g [0, 1] .red 0 9 = 7 ∧ sourceSample m d { g with border := .fill } [0, 1] .blue 0 2 = 3 ∧
      readSample m .rgb48 0 = 5 + 256 * 6 := by decide +kernel

/-- R94, R128 (log 33): a line of the frame that is not fetched, a column or a line outside the frame, a fetched line. -/
theorem test_unfetched :
    unfetched smallFrame [0, 1] 63 15 = true ∧ unfetched smallFrame [0, 1] 64 15 = false ∧
      unfetched smallFrame [0, 1] (-1) 15 = false ∧ unfetched smallFrame [0, 1] 0 16 = false ∧
      unfetched smallFrame [0, 1] 0 1 = false := by decide +kernel

/-! ### A small state in which every block holds something -/

def awake : State := { State.reset with timebase := 9000000, power := .active }

def smallGeometry : Geometry :=
  { format := .rgb24, srcWidth := 64, srcHeight := 16, outWidth := 64, outHeight := 16, border := .edge, fill := black,
    policy := .pass, crop := .profile }

def ref33 : ProfileRef := { slot := 3, number := 3 }
def someLens : LensState := { nominal := 1260, focus := 2402, aperture := 28 }

/-- Exposure 1 is RESOLVED with 3/3, 2 awaits its state, 3 is OPEN. -/
def exposure1 : ExposureRec :=
  { seq := 1, start := 8900000, attachCount := 6, key := some { model := 4120, converter := 0 }
    state := .resolved 8904000 8902000 { lens := some someLens, flags := StateFlags.empty, ref := some ref33 } }
def exposure2 : ExposureRec :=
  { seq := 2, start := 8994000, attachCount := 6, key := some { model := 4120, converter := 0 }
    state := .awaiting 8998000 8996000 9006000 }
def exposure3 : ExposureRec :=
  { seq := 3, start := 8999000, attachCount := 6, key := some { model := 4120, converter := 0 }, state := .opened 38999000 }

/-- A STILL job of the Body Port with one band, QUEUED with 3/3. -/
def stillJob : Job :=
  { number := 1, port := .body, cls := .still, seq := 1, source := at0, dest := at4096, geom := smallGeometry
    key := some { model := 4120, converter := 0 }, firmware := some 9, lens := some someLens
    stateFlags := some StateFlags.empty, ref := some ref33, trueFocal := none, state := .queued, cancelPending := false
    suppressed := false, bandsDone := 0, bandsTotal := 1, flags := ResultFlags.empty }
def waitingJob : Job :=
  { stillJob with number := 2, seq := 2, firmware := none, key := none, lens := none, stateFlags := none, ref := none, state := .waiting }
def endedJob : Job := { stillJob with number := 3, state := .ended .done, bandsDone := 1 }

def record1 : FrameRecord :=
  { seq := 1, job := 3, key := some { model := 4120, converter := 0 }, firmware := some 9, lens := some someLens
    trueFocal := some 1272, ref := some ref33, result := .done, flags := ResultFlags.empty, srcWidth := 64, srcHeight := 16
    completed := 8950000 }

/-- The context of the STILL job at its first band. -/
def context1 : Context := { job := 1, nextBand := 0, ws := workingSetAt zoom 1260 2402 .profile, identity := false }

def endedNotice : Notice := .jobEnded 3 .done ResultFlags.empty 1

/-- Slot 3 is LIVE, the Body Port's edit is open on slot 5, job 1 is RUNNING, job 2 waits for exposure 2, job 3 is ENDED. -/
def bench : State :=
  { awake with
    store := {
      slots := ((Vector.replicate 32 Slot.empty).set 3
        { lastIssued := 3, live := some zoom, staging := none, retired := [] }).set 5
          { Slot.empty with staging := some {
              key := { model := 77, converter := 1 }, cx := 0, cy := 0, nodes := [smallNode], chroma := none, crop := none } }
      used := 7 }
    edits := { body := some { slot := 5, carry := { geometry := false, chroma := false, crop := false }, carrySource := none }
               transmitter := none }
    tracker := {
      lens := some { key := { model := 4120, converter := 0 }, firmware := 9, bound := some ref33 }
      attachCount := 6, history := [{ stamp := 8990000, lens := someLens, aged := false }], holdLimit := 8 }
    exposure := { log := [exposure1, exposure2, exposure3], nextSeq := 4, exps := .low, expe := .low }
    jobs := { table := [{ stillJob with state := .running, trueFocal := some 1272 }, waitingJob, endedJob], nextJob := 4
              still := { state := .running, config := smallGeometry }, preview := Stream.unconfigured }
    engine := { now := .inBand context1, shadow := none }
    memPort := { window := some { base := 0, size := 1048576 }, grant := .granted, pendingWithdrawal := false, pauseLimit := 250
                 pauseTimer := none }
    records := [record1]
    ports := { body := { PortRec.fresh with notices := [endedNotice] }, mount := PortRec.fresh, transmitter := PortRec.fresh } }

/-- The same with the engine IDLE and the STILL job QUEUED. -/
def quiet : State :=
  { bench with
    jobs := { bench.jobs with table := [stillJob, waitingJob, endedJob] }
    engine := { now := .idle, shadow := none } }

/-- The same with memory withdrawn and the STILL job PAUSED. -/
def paused : State :=
  { bench with
    jobs := { bench.jobs with table := [{ stillJob with state := .paused }, waitingJob, endedJob] }
    engine := { now := .holding context1, shadow := none }
    memPort := { bench.memPort with grant := .withdrawn, pauseTimer := some { job := 1, expiry := 9000000 } } }

/-- An URGENT job RUNNING over the suspended STILL job. -/
def overtaken : State :=
  { bench with
    jobs := { bench.jobs with
      table := [{ stillJob with state := .suspended, bandsTotal := 2, bandsDone := 1 }, waitingJob, endedJob,
        { stillJob with number := 4, cls := .urgent, port := .transmitter, state := .running }], nextJob := 5 }
    engine := { now := .inBand { context1 with job := 4 }, shadow := some { context1 with nextBand := 1 } } }

/-- The outcome and the fields that a request leaves pending on its port. -/
def reply (c : Instr) (s : State) : Option (Code × Answer) :=
  match asRequest c, exec c s with
  | some (_, h), .next t => (t.port h.port).response.map fun r => (r.code, r.answer)
  | _, _ => none

/-- The state after a command that answers one, and the state before otherwise. -/
def after (c : Instr) (s : State) : State :=
  match exec c s with
  | .next t => t
  | .fault _ | .refused _ => s

/-! ### Requests of every port and lens requests -/

theorem test_queryTime : reply (.queryTime mountHdr) bench = some (.ok, .time 9000000) := by decide +kernel
theorem test_fetchNotices :
    reply (.fetchNotices bodyHdr) bench = some (.ok, .notices 0 [endedNotice]) ∧
      ((after (.fetchNotices bodyHdr) bench).jobs.table.map Job.number) = [1, 2] := by decide +kernel
theorem test_setNoticeMask :
    reply (.setNoticeMask bodyHdr 31) bench = some (.ok, .masks 0 31) ∧
      reply (.setNoticeMask bodyHdr 32) bench = some (.badField, .none) := by decide +kernel
theorem test_resetPort :
    reply (.resetPort bodyHdr) bench = some (.ok, .portReset 2 2 true true) ∧
      (after (.resetPort bodyHdr) bench).store.used = 5 ∧ (after (.resetPort bodyHdr) bench).notices .body = [] := by decide +kernel
theorem test_queryLens :
    reply (.queryLens deskHdr) bench = some (.ok, .lens
      (some { key := { model := 4120, converter := 0 }, firmware := 9, bound := some ref33 }) 6 8 1
      (some { stamp := 8990000, lens := someLens, trueFocal := 1272, focus := 2402, uncalibrated := false, clamped := false })) := by decide +kernel
theorem test_resetPart : reply (.resetPart bodyHdr) bench = some (.ok, .none) := by decide +kernel
theorem test_notPermitted : reply (.resetPart mountHdr) bench = some (.notPermitted, .none) := by decide +kernel
theorem test_badLength : reply (.queryTime { bodyHdr with badLength := true }) bench = some (.badLength, .none) := by
  decide +kernel

/-- A re-attach resolves exposure 2 DETACHED and leaves the lens UNMATCHED. -/
theorem test_lensAttached :
    reply (.lensAttached mountHdr 4400 14 9) bench = some (.ok, .attached 7 none (some 1)) ∧
      ((after (.lensAttached mountHdr 4400 14 9) bench).jobs.table.map Job.state)[1]? = some .queued := by decide +kernel
theorem test_lensAttached_ranges :
    reply (.lensAttached mountHdr 0 0 0) bench = some (.badField, .none) ∧
      reply (.lensAttached mountHdr 65536 0 0) bench = some (.badField, .none) ∧
      reply (.lensAttached mountHdr 1 256 0) bench = some (.badField, .none) ∧
      reply (.lensAttached mountHdr 65535 255 255) awake = some (.ok, .attached 1 none none) := by decide +kernel
theorem test_lensDetached :
    reply (.lensDetached mountHdr) bench = some (.ok, .detached 6 1) ∧
      reply (.lensDetached mountHdr) awake = some (.noLens, .none) := by decide +kernel

/-- Exposure 2 has its midpoint between the two reports, and job 2 becomes QUEUED with a pin of its own. -/
theorem test_lensState :
    reply (.lensState mountHdr 1300 2402 28 1000 0) bench = some (.ok, .report 8999000 2) ∧
      ((after (.lensState mountHdr 1300 2402 28 1000 0) bench).jobs.table[1]?.map fun j => (j.state, j.ref)) =
        some (.queued, some ref33) ∧
      ((after (.lensState mountHdr 1300 2402 28 1000 0) bench).store.find ref33).map Version.pins = some 4 := by decide +kernel
theorem test_lensState_refused :
    reply (.lensState mountHdr 9 0 10 0 0) bench = some (.badField, .none) ∧
      reply (.lensState mountHdr 10 0 10 0 0) awake = some (.noLens, .none) ∧
      reply (.lensState mountHdr 10 0 10 2000 9000) bench = some (.staleReport, .stale 8989000 8990000) ∧
      reply (.lensState mountHdr 20000 4095 640 2000 8000) bench = some (.ok, .report 8990000 2) := by decide +kernel
theorem test_setLensTiming :
    reply (.setLensTiming bodyHdr 0) bench = some (.badField, .none) ∧
      reply (.setLensTiming bodyHdr 1) bench = some (.ok, .limits 8 1) ∧
      reply (.setLensTiming bodyHdr 100) bench = some (.ok, .limits 8 100) ∧
      reply (.setLensTiming bodyHdr 101) bench = some (.badField, .none) := by decide +kernel

/-! ### Edit and store requests -/

theorem test_openEdit :
    reply (.openEdit deskHdr 3 { model := 1, converter := 0 } 512 (-512) 7) bench = some (.ok, .opened 3 true (some 3)) ∧
      reply (.openEdit deskHdr 5 { model := 1, converter := 0 } 0 0 0) bench = some (.editHeld, .holder .body) ∧
      reply (.openEdit bodyHdr 0 { model := 1, converter := 0 } 0 0 0) bench = some (.editOpen, .heldSlot 5) := by
  decide +kernel
theorem test_openEdit_ranges :
    ([Instr.openEdit deskHdr 32 { model := 1, converter := 0 } 0 0 0, .openEdit deskHdr 0 { model := 0, converter := 0 } 0 0 0,
      .openEdit deskHdr 0 { model := 1, converter := 256 } 0 0 0, .openEdit deskHdr 0 { model := 1, converter := 0 } 513 0 0,
      .openEdit deskHdr 0 { model := 1, converter := 0 } 0 (-513) 0, .openEdit deskHdr 0 { model := 1, converter := 0 } 0 0 8].all
      fun c => decide (reply c bench = some (.badField, .none))) = true := by decide +kernel

def benchProgress : Progress := { nodes := 1, chroma := 0, crop := false, blocks := 2 }

theorem test_writeNodes :
    reply (.writeNodes bodyHdr [{ smallNode with focus := 1 }, { smallNode with nominal := 501 }]) bench =
      some (.ok, .written { benchProgress with nodes := 3, blocks := 4 } none none) ∧
    reply (.writeNodes bodyHdr [{ smallNode with focus := 1 }, { smallNode with focus := 1 }]) bench =
      some (.order, .written benchProgress (some 2) none) := by decide +kernel
theorem test_writeNodes_ranges :
    reply (.writeNodes bodyHdr [{ smallNode with focus := 4096 }]) bench =
      some (.badField, .written benchProgress (some 1) none) ∧
    reply (.writeNodes bodyHdr [{ smallNode with focus := 4095, k1 := 2097152, k2 := -2097152 }]) bench =
      some (.ok, .written { benchProgress with nodes := 2, blocks := 3 } none none) ∧
    reply (.writeNodes bodyHdr []) bench = some (.badLength, .none) := by decide +kernel
theorem test_writeChroma :
    reply (.writeChroma bodyHdr [{ index := 0, terms := { noTerms with redLinear := 262144 } }]) bench =
      some (.ok, .written { benchProgress with chroma := 1, blocks := 3 } none none) ∧
    reply (.writeChroma bodyHdr [{ index := 1, terms := noTerms }]) bench =
      some (.order, .written benchProgress (some 1) none) ∧
    reply (.writeChroma bodyHdr [{ index := 0, terms := { noTerms with redLinear := 262145 } }]) bench =
      some (.badField, .written benchProgress (some 1) none) := by decide +kernel
theorem test_writeCrop :
    reply (.writeCrop bodyHdr 8191) bench = some (.badField, .written benchProgress (some 1) none) ∧
      reply (.writeCrop bodyHdr 8192) bench = some (.ok, .written { benchProgress with crop := true } none none) ∧
      reply (.writeCrop bodyHdr 32768) bench = some (.ok, .written { benchProgress with crop := true } none none) ∧
      reply (.writeCrop bodyHdr 32769) bench = some (.badField, .written benchProgress (some 1) none) := by decide +kernel

/-- Slot 5 was EMPTY: its first version is 1, and nothing is freed. -/
theorem test_commitEdit :
    reply (.commitEdit bodyHdr) bench = some (.ok, .committed 5 1 .none
      { geometry := false, chroma := false, crop := false } 1 false false 2 7) ∧
    (after (.commitEdit bodyHdr) bench).notices .transmitter = [.profileChanged 32] ∧
    (after (.commitEdit bodyHdr) bench).edits.body = none := by decide +kernel

/-- The same with slot 3 as a slot whose pinned version is retired, its nodes and crop scale carried. -/
def recommit : State :=
  { bench with
    store := bench.store.setSlot 3 { bench.store.slot 3 with
      staging := some { key := { model := 4120, converter := 0 }, cx := 0, cy := 0, nodes := [], chroma := none, crop := none } }
    edits := { body := none
               transmitter := some { slot := 3, carry := { geometry := true, chroma := true, crop := true }, carrySource := some 3 } } }

theorem test_commitEdit_retires :
    reply (.commitEdit deskHdr) recommit = some (.ok, .committed 3 4 (.retired 3)
      { geometry := true, chroma := false, crop := true } 4 false true 5 11) ∧
    (after (.commitEdit deskHdr) recommit).tracker.lens.bind Attached.bound = some { slot := 3, number := 4 } ∧
    (after (.commitEdit deskHdr) recommit).notices .mount = [.lensChanged] := by decide +kernel
theorem test_abortEdit :
    reply (.abortEdit bodyHdr) bench = some (.ok, .freedBlocks 2) ∧
      reply (.abortEdit deskHdr) bench = some (.noEdit, .none) := by decide +kernel
theorem test_readProfile :
    reply (.readProfile bodyHdr 3 0) bench = some (.ok, .profile 3
      (some { number := 3, key := { model := 4120, converter := 0 }, cx := 6, cy := -3, nodeCount := 4, chroma := false,
              crop := some 18432, blocks := 5, pins := 2 }) 0 [] none) ∧
    reply (.readProfile bodyHdr 5 19) bench = some (.ok, .profile 0 none 0 [] (some (.body, 2))) ∧
    reply (.readProfile bodyHdr 3 20) bench = some (.badField, .none) ∧
    reply (.readProfile bodyHdr 32 0) bench = some (.badField, .none) := by decide +kernel
theorem test_readNode :
    reply (.readNode deskHdr 3 3) bench = some (.ok, .node 3
      { nominal := 1350, focus := 3000, trueFocal := 1366, k1 := -18874, k2 := 0, k3 := 0 } none) ∧
    reply (.readNode deskHdr 3 4) bench = some (.badField, .none) ∧
    reply (.readNode deskHdr 3 40) bench = some (.badField, .none) ∧
    reply (.readNode deskHdr 5 0) bench = some (.slotEmpty, .none) := by decide +kernel
theorem test_queryStore : reply (.queryStore deskHdr) bench = some (.ok, .storeCounts 7 1529 0 1) := by decide +kernel
theorem test_deleteProfile :
    reply (.deleteProfile deskHdr 3) bench = some (.ok, .none) ∧
      (after (.deleteProfile deskHdr 3) bench).store.slot 3 =
        { lastIssued := 3, live := none, staging := none, retired := [zoom] } ∧
      (after (.deleteProfile deskHdr 3) bench).tracker.lens.bind Attached.bound = none := by decide +kernel
theorem test_deleteProfile_refused :
    reply (.deleteProfile deskHdr 32) bench = some (.badField, .none) ∧
      reply (.deleteProfile deskHdr 31) bench = some (.slotEmpty, .none) ∧
      reply (.deleteProfile bodyHdr 3) recommit = some (.editHeld, .none) := by decide +kernel

/-! ### Exposures, streams and jobs -/

theorem test_queryExposure :
    reply (.queryExposure bodyHdr 2) bench = some (.ok, .exposure exposure2.entry 3) ∧
      reply (.queryExposure bodyHdr 0) bench = some (.badField, .none) ∧
      reply (.queryExposure bodyHdr 4) bench = some (.unknownExposure, .none) := by decide +kernel
theorem test_configureStream :
    reply (.configureStream bodyHdr (.is .preview) smallArgs) bench = some (.ok, .configured none) ∧
      reply (.configureStream bodyHdr (.is .preview) { smallArgs with srcWidth := 63 }) bench =
        some (.ok, .configured (some .srcWidth)) ∧
      reply (.configureStream bodyHdr (.is .still) smallArgs) bench = some (.streamState, .none) ∧
      reply (.configureStream bodyHdr .invalid smallArgs) bench = some (.badField, .none) := by decide +kernel
theorem test_startStream :
    reply (.startStream bodyHdr (.is .preview)) bench = some (.config, .configFails .srcWidth) ∧
      reply (.startStream bodyHdr (.is .still)) bench = some (.streamState, .none) ∧
      reply (.startStream bodyHdr (.is .still))
        { bench with jobs := { bench.jobs with still := { state := .halted, config := smallGeometry } } } =
        some (.ok, .streamState .running) := by decide +kernel
theorem test_stopStreamDrain :
    reply (.stopStreamDrain bodyHdr (.is .still) false) bench = some (.ok, .drained .draining 2) ∧
      reply (.stopStreamDrain bodyHdr (.is .preview) false) bench = some (.streamState, .none) ∧
      reply (.stopStreamDrain bodyHdr (.is .still) true) bench = some (.badField, .none) := by decide +kernel
theorem test_stopStreamFlush :
    reply (.stopStreamFlush bodyHdr (.is .still)) bench = some (.ok, .flushed .draining 1 true) ∧
      reply (.stopStreamFlush bodyHdr (.is .still)) quiet = some (.ok, .flushed .halted 2 false) ∧
      ((after (.stopStreamFlush bodyHdr (.is .still)) quiet).jobs.table.map Job.state) =
        [.ended .cancelled, .ended .cancelled, .ended .done] := by decide +kernel
theorem test_queryStream :
    reply (.queryStream bodyHdr (.is .still)) quiet =
      some (.ok, .stream { state := .running, config := smallGeometry } true 2 1 1) := by decide +kernel

/-- A job for an exposure that is RESOLVED, and one for an exposure that awaits its state. -/
theorem test_submitFrame :
    reply (.submitFrame bodyHdr (.is .still) 1 at0 at4096) bench = some (.ok, .submitted 4 .queued 1 0) ∧
      reply (.submitFrame bodyHdr (.is .still) 2 at0 at4096) bench = some (.ok, .submitted 4 .waiting 1 0) ∧
      reply (.submitFrame bodyHdr (.is .still) 1 at0 at4096)
        { quiet with jobs := { quiet.jobs with table := [endedJob] } } = some (.ok, .submitted 4 .running 1 0) := by decide +kernel
theorem test_submitFrame_refused :
    reply (.submitFrame bodyHdr (.is .still) 0 at0 at4096) bench = some (.badField, .none) ∧
      reply (.submitFrame bodyHdr (.is .preview) 1 at0 at4096) bench = some (.streamState, .none) ∧
      reply (.submitFrame bodyHdr (.is .still) 9 at0 at4096) bench = some (.unknownExposure, .none) ∧
      reply (.submitFrame bodyHdr (.is .still) 3 at0 at4096) bench = some (.exposureUnusable, .none) ∧
      reply (.submitFrame bodyHdr (.is .still) 1 { address := 32, pitch := 192 } at4096) bench =
        some (.window, .windowFails .source .alignment) ∧
      reply (.submitFrame bodyHdr (.is .still) 1 at0 { address := 0, pitch := 128 }) bench =
        some (.window, .windowFails .destination .pitch) := by decide +kernel
theorem test_queryJob :
    reply (.queryJob bodyHdr 2) bench = some (.ok, .job waitingJob) ∧
      reply (.queryJob deskHdr 2) bench = some (.unknownJob, .none) ∧
      reply (.queryJob bodyHdr 0) bench = some (.badField, .none) := by decide +kernel
theorem test_cancelJob :
    reply (.cancelJob bodyHdr 1) bench = some (.ok, .cancelled .running true) ∧
      reply (.cancelJob bodyHdr 2) bench = some (.ok, .cancelled (.ended .cancelled) false) ∧
      reply (.cancelJob bodyHdr 3) bench = some (.jobEnded, .ended .done) := by decide +kernel
theorem test_cancelJob_paused :
    (after (.cancelJob bodyHdr 1) paused).engine = { now := .idle, shadow := none } ∧
      (after (.cancelJob bodyHdr 1) paused).memPort.pauseTimer = none ∧
      ((after (.cancelJob bodyHdr 1) paused).store.find ref33).map Version.pins = some 1 := by decide +kernel

/-! ### Frame memory, records and power -/

theorem test_setWindow :
    reply (.setWindow bodyHdr 64 64) bench = some (.engineBusy, .windowBusy .granted) ∧
      reply (.setWindow bodyHdr 64 64) paused = some (.engineBusy, .windowBusy (.unended 2)) ∧
      reply (.setWindow bodyHdr 64 64) awake = some (.ok, .windowSet { base := 64, size := 64 } none) := by decide +kernel
theorem test_setWindow_ranges :
    reply (.setWindow bodyHdr 32 64) awake = some (.badField, .none) ∧
      reply (.setWindow bodyHdr 0 0) awake = some (.badField, .none) ∧
      reply (.setWindow bodyHdr 4294967232 64) awake = some (.ok, .windowSet { base := 4294967232, size := 64 } none) ∧
      reply (.setWindow bodyHdr 4294967232 128) awake = some (.badField, .none) := by decide +kernel
theorem test_grantMemory :
    reply (.grantMemory bodyHdr) paused = some (.ok, .granted true (some (1, .running))) ∧
      (after (.grantMemory bodyHdr) paused).engine.now = .inBand context1 ∧
      (after (.grantMemory bodyHdr) paused).memPort.pauseTimer = none ∧
      reply (.grantMemory bodyHdr) bench = some (.ok, .granted false (some (1, .running))) := by decide +kernel
theorem test_withdrawMemory :
    reply (.withdrawMemory bodyHdr) bench = none ∧ (after (.withdrawMemory bodyHdr) bench).memPort.pendingWithdrawal = true ∧
      ((after (.withdrawMemory bodyHdr) bench).port .body).link = .inProgress ∧
      reply (.withdrawMemory bodyHdr) quiet = some (.ok, .withdrawn .atOnce none) := by decide +kernel
theorem test_setPauseLimit :
    reply (.setPauseLimit bodyHdr 9) bench = some (.badField, .none) ∧
      reply (.setPauseLimit bodyHdr 10) bench = some (.ok, .limits 250 10) ∧
      reply (.setPauseLimit bodyHdr 2000) bench = some (.ok, .limits 250 2000) ∧
      reply (.setPauseLimit bodyHdr 2001) bench = some (.badField, .none) := by decide +kernel
theorem test_queryMemory :
    reply (.queryMemory bodyHdr) paused = some (.ok, .memory (some { base := 0, size := 1048576 }) .withdrawn 250
      (some { job := 1, expiry := 9000000 }) 2) := by decide +kernel
theorem test_readRecords :
    reply (.readRecords deskHdr 0 1) bench = some (.ok, .records 1 0 1 [record1]) ∧
      reply (.readRecords deskHdr 2 4) bench = some (.noRecord, .none) ∧
      reply (.readRecords deskHdr 0 5) bench = some (.badField, .none) ∧
      reply (.readRecords deskHdr 0 0) bench = some (.badField, .none) := by decide +kernel
theorem test_submitUrgent :
    reply (.submitUrgent deskHdr pickArgs) bench = some (.ok, .urgent 4 .queued 1 (some ref33) false) ∧
      reply (.submitUrgent deskHdr pickArgs)
        { bench with records := [{ record1 with ref := some { slot := 3, number := 2 } }] } =
        some (.ok, .urgent 4 .queued 1 (some ref33) true) := by decide +kernel
theorem test_submitUrgent_refused :
    reply (.submitUrgent deskHdr { pickArgs with outHeight := 15 }) bench = some (.badField, .none) ∧
      reply (.submitUrgent deskHdr { pickArgs with seq := 2 }) bench = some (.noRecord, .none) ∧
      reply (.submitUrgent deskHdr { pickArgs with dest := { address := 1048512, pitch := 192 } }) bench =
        some (.window, .windowFails .destination .area) := by decide +kernel
theorem test_standby :
    reply (.standby bodyHdr) bench = some (.engineBusy, .unended 2) ∧
      reply (.standby bodyHdr) awake = some (.ok, .power .standby true) := by decide +kernel
theorem test_wake :
    reply (.wake bodyHdr) { awake with power := .standby } = some (.ok, .power (.waking 9002000) true) ∧
      reply (.wake bodyHdr) awake = some (.ok, .power .active false) := by decide +kernel

/-! ### Link events -/

theorem test_frameError :
    ((after (.frameError bodyLink [0, 1, 7]) bench).port .body).response =
      some { kind := 0, tag := 0, code := .frameError, answer := .none } ∧
    exec (.frameError bodyLink (frameBytes 1 7 [])) bench = .refused .notThisCommand := by
  refine ⟨by decide +kernel, ?_⟩
  have hr : receive (frameBytes 1 7 []) = .frame 1 7 [] := by decide +kernel
  have hl : (bench.port bodyLink.port).link = .idle ∧ bodyLink.early = false := by decide +kernel
  simp only [exec, execFrameError, if_pos hl, hr]
theorem test_unknownKind :
    ((after (.unknownKind bodyLink 38 7) bench).port .body).response =
      some { kind := 38, tag := 7, code := .unknownKind, answer := .none } ∧
    exec (.unknownKind bodyLink 37 7) bench = .refused .notThisCommand := by
  refine ⟨by decide +kernel, rfl⟩

/-- A response waits on the Body Port. -/
def answered : State := after (.queryTime bodyHdr) bench

theorem test_writeTransactionDiscarded :
    (after (.writeTransactionDiscarded bodyLink) answered).notices .body = [endedNotice, .protocolError 1] ∧
      (after (.writeTransactionDiscarded bodyLink) (after (.writeTransactionDiscarded bodyLink) answered)).notices .body =
        [endedNotice, .protocolError 2] := by decide +kernel
theorem test_invalidOpeningByte :
    (after (.invalidOpeningByte mountLink 0x5B) bench).notices .mount = [.protocolError 1] ∧
      exec (.invalidOpeningByte mountLink 0x5A) bench = .refused .notThisCommand := by
  refine ⟨by decide +kernel, rfl⟩
theorem test_readTransaction :
    ((after (.readTransaction bodyLink .whole) answered).port .body).link = .idle ∧
      (after (.readTransaction bodyLink .whole) answered).wire.body = some (.response
        { kind := 1, tag := 7, code := .ok, answer := .time 9000000 } .whole) ∧
      ((after (.readTransaction bodyLink (.ended 3)) answered).port .body).link = .responseWaiting := by decide +kernel
theorem test_readTransaction_idle :
    (after (.readTransaction bodyLink (.ended 3)) bench).wire.body = some (.emptyFrame (.ended 3)) ∧
      (after (.readTransaction bodyLink .whole)
        { bench with ports := { bench.ports with body := { PortRec.fresh with link := .reset } } }).wire.body = some .zeros := by
  decide +kernel

/-- R176: what a transaction that opened before the last reset was over comes to: nothing, and 0x00 bytes. -/
theorem test_early :
    exec (.queryTime { bodyHdr with early := true }) bench = .next (bench.send .body .zeros) ∧
      exec (.readTransaction lateLink .whole) answered = .next (answered.send .body .zeros) ∧
      exec (.writeTransactionDiscarded lateLink) answered = .next (answered.send .body .zeros) := ⟨rfl, rfl, rfl⟩

/-- R166, R169: 0x00 during a request, and after the last byte of a frame that more bytes are clocked of. -/
theorem test_sent :
    answered.wire.body = some .zeros ∧ (after (.unknownKind bodyLink 38 7) bench).wire.body = some .zeros ∧
      ((List.range 8).map (Sent.emptyFrame (.ended 7)).byte) =
        [some 0, some 0, some 0, some 0xCC, some 0x9C, some 0, some 0, none] := by decide +kernel

/-- R172: both masks as bytes, the previous one first. -/
theorem test_maskBytes : answerBytes (.masks 0 31) = [0, 31] := by decide +kernel

/-! ### Triggers, expiries, bands and resets -/

theorem test_triggerRisingEdge :
    (after (.triggerRisingEdge .exps) bench).exposure.exps = .qualifying 9000000 ∧
      (after (.triggerRisingEdge .expe) bench).exposure.expe = .qualifying 9000000 := by decide +kernel
theorem test_triggerFallingEdge :
    (after (.triggerFallingEdge .exps)
      { bench with exposure := { bench.exposure with exps := .qualifying 8999999 } }).exposure.exps = .low := by decide +kernel

/-- The pulse of EXPS, or of EXPE, has qualified. -/
def started : State := { bench with exposure := { bench.exposure with exps := .qualifying 8999999 } }
def closing : State := { bench with exposure := { bench.exposure with expe := .qualifying 8999999 } }

theorem test_exps :
    ((after .exps started).exposure.log.map ExposureRec.seq) = [1, 2, 3, 4] ∧
      ((after .exps started).exposure.log.map ExposureRec.state)[2]? = some .abandoned ∧
      (after .exps bench).exposure = bench.exposure := by decide +kernel
theorem test_expe :
    ((after .expe closing).exposure.log.map ExposureRec.state)[2]? = some (.awaiting 8999999 8999499 9007999) := by
  decide +kernel
theorem test_openLimitExpiry :
    ((after .openLimitExpiry { bench with timebase := 38999000 }).exposure.log.map ExposureRec.state)[2]? = some .abandoned ∧
      (after .openLimitExpiry bench).exposure = bench.exposure := by decide +kernel

/-- HELD, and the waiting job copies it. -/
theorem test_resolveDeadlineExpiry :
    ((after (.resolveDeadlineExpiry 2) { bench with timebase := 9006000 }).jobs.table.map fun j => (j.state, j.flags.held))[1]? =
      some (.queued, true) ∧ (after (.resolveDeadlineExpiry 2) bench).exposure = bench.exposure := by decide +kernel
theorem test_pauseTimerExpiry :
    ((after .pauseTimerExpiry paused).jobs.table.map Job.state)[0]? = some (.ended .failedMemoryTimeout) ∧
      (after .pauseTimerExpiry paused).engine.now = .idle := by decide +kernel

def waking : State := { quiet with power := .waking 9000000 }

theorem test_wakeTimerExpiry :
    (after .wakeTimerExpiry waking).power = .active ∧ (after .wakeTimerExpiry waking).engine.now = .inBand context1 ∧
      ((after .wakeTimerExpiry waking).jobs.table.map fun j => (j.state, j.trueFocal))[0]? = some (.running, some 1272) := by
  decide +kernel
theorem test_reportAged :
    ((after .reportAged { bench with timebase := 8990000 + 1073741824 }).tracker.history.map Report.aged) = [true] ∧
      ((after .reportAged bench).tracker.history.map Report.aged) = [false] := by decide +kernel

/-- The one band of the STILL job: DONE, its frame record in place of the older one of the same exposure. -/
theorem test_bandBoundary :
    let t := after .bandBoundary bench
    ((t.jobs.table.map Job.state)[0]?, t.engine.now, t.records.map FrameRecord.job, t.notices .transmitter) =
      (some (.ended .done), .idle, [1], [.recordAdded 1]) := by decide +kernel
theorem test_bandBoundary_stops :
    exec .bandBoundary { bench with jobs := { bench.jobs with table := [] } } = .fault .contextWithoutJob := by rfl
theorem test_busError :
    let t := after (.busError (.write 0 5)) bench
    ((t.jobs.table.map Job.state)[0]?, t.engine.now, t.records) = (some (.ended .failedMemoryFault), .idle, [record1]) := by
  decide +kernel
theorem test_reset :
    (after .reset quiet).power = .inReset ∧ (after .reset quiet).resetCtl.input = true ∧
      ((after .reset quiet).port .mount).link = .reset ∧ (after .reset quiet).store = State.reset.store := by decide +kernel
theorem test_resetEnd :
    (after .resetEnd (after .reset quiet)).power = .waking 2000 ∧
      (after .resetEnd (after .reset quiet)).timebase = 0 ∧ after .resetEnd bench = bench := by decide +kernel

/-- A microsecond on an empty queue: the deadlines that it reaches join the queue. -/
theorem test_tick :
    step awake = .next { awake with timebase := 9000001 } ∧
      (bench.tick.timebase = 9000001 ∧ .pauseTimerExpiry ∈ paused.tick.pending) := by
  refine ⟨rfl, by decide +kernel, ?_⟩
  decide +kernel

/-! ### The laws hold of the small state -/

theorem bench_counted : bench.store.counted := by
  refine ⟨?_, ?_⟩ <;> decide +kernel

theorem bench_editsOwnStaging : bench.editsOwnStaging := by
  refine ⟨by decide +kernel, ?_⟩
  intro b t _ ht
  exact absurd ht (by simp [bench])

theorem bench_carrySourcesCurrent : bench.carrySourcesCurrent := by
  intro p e he
  cases p
  · have : e = { slot := 5, carry := { geometry := false, chroma := false, crop := false }, carrySource := none } := by
      simpa [State.edit, bench, eq_comm] using he
    subst this
    decide +kernel
  · exact absurd he (by simp [State.edit])
  · exact absurd he (by simp [State.edit, bench])

theorem bench_retiredPinned : bench.store.retiredPinned := by
  have h : ∀ i, (bench.store.slot i).retired = [] := by decide +kernel
  intro i v hv
  rw [h i] at hv
  cases hv

theorem bench_live : ∀ i v, (bench.store.slot i).live = some v → i = 3 ∧ v = zoom := by
  have h : ∀ i : Fin 32, (bench.store.slot i).live = if i = 3 then some zoom else none := by decide +kernel
  intro i v hv
  rw [h i] at hv
  split at hv
  · cases hv
    exact ⟨by assumption, rfl⟩
  · cases hv

theorem bench_keysDistinct : bench.store.keysDistinct := by
  intro i j v w hi hj _
  rw [(bench_live i v hi).1, (bench_live j w hj).1]

theorem bench_bindingCurrent : bench.bindingCurrent := by
  intro a ha
  cases ha
  decide +kernel

theorem bench_pinsCounted : bench.pinsCounted := by
  intro i v hv
  have hr : ∀ i, (bench.store.slot i).retired = [] := by decide +kernel
  rcases hv with hv | hv
  · obtain ⟨rfl, rfl⟩ := bench_live i v hv
    decide +kernel
  · rw [hr i] at hv
    cases hv

theorem bench_refsPresent : bench.refsPresent := by
  intro r hr
  have a : ∀ e ∈ bench.exposure.log, e.ref = some ref33 ∨ e.ref = none := by decide +kernel
  have b : ∀ j ∈ bench.jobs.table, j.ref = some ref33 ∨ j.ref = none := by decide +kernel
  have : r = ref33 := by
    rcases Nat.add_pos_iff_pos_or_pos.1 hr with h | h
    · obtain ⟨e, he⟩ := List.exists_mem_of_length_pos h
      obtain ⟨he, hf⟩ := List.mem_filter.1 he
      rcases a e he with h | h <;> rw [h] at hf <;> simp at hf
      exact hf.symm
    · obtain ⟨j, hj⟩ := List.exists_mem_of_length_pos h
      obtain ⟨hj, hf⟩ := List.mem_filter.1 hj
      rcases b j hj with h | h <;> rw [h] at hf <;> simp at hf
      exact hf.2.symm
  subst this
  exact ⟨zoom, Or.inl (by decide +kernel), rfl⟩

theorem bench_versionsDistinct : bench.store.versionsDistinct := by
  unfold Store.versionsDistinct
  decide +kernel

theorem bench_waitingHoldNothing : bench.waitingHoldNothing := by
  unfold State.waitingHoldNothing
  decide +kernel

theorem bench_bounded : bench.exposure.bounded := by
  refine ⟨?_, ?_⟩ <;> decide +kernel

theorem bench_sequencesRun : bench.exposure.sequencesRun := by
  intro i e he
  match i with
  | 0 => cases he; decide
  | 1 => cases he; decide
  | 2 => cases he; decide
  | _ + 3 => cases he

theorem bench_sequencesDistinct : bench.exposure.sequencesDistinct := by
  unfold ExposureUnit.sequencesDistinct
  decide +kernel

theorem bench_numbersDistinct : bench.numbersDistinct := by
  unfold State.numbersDistinct
  decide +kernel

theorem bench_engineAgrees : bench.engineAgrees := by
  refine ⟨by decide +kernel, by decide +kernel, by decide +kernel, ?_, by decide +kernel, ?_⟩
  · intro n hn
    cases hn
    decide +kernel
  · intro c hc
    cases hc

theorem quiet_engineAgrees : quiet.engineAgrees := by
  refine ⟨by decide +kernel, by decide +kernel, by decide +kernel, ?_, by decide +kernel, ?_⟩
  · intro n hn
    cases hn
  · intro c hc
    cases hc

theorem paused_engineAgrees : paused.engineAgrees := by
  refine ⟨by decide +kernel, by decide +kernel, by decide +kernel, ?_, by decide +kernel, ?_⟩
  · intro n hn
    cases hn
    decide +kernel
  · intro c hc
    cases hc

theorem overtaken_engineAgrees : overtaken.engineAgrees := by
  refine ⟨by decide +kernel, by decide +kernel, by decide +kernel, ?_, by decide +kernel, ?_⟩
  · intro n hn
    cases hn
    decide +kernel
  · intro c hc
    cases hc
    decide +kernel

theorem bench_noticesNameEnded : bench.noticesNameEnded := by
  have hd : ∀ j ∈ bench.jobs.table, j.unended = false → j.number = 3 ∧ j.port = .body := by decide +kernel
  have he : ∃ j ∈ bench.jobs.table, j.number = 3 ∧ j.port = .body ∧ j.unended = false := by decide +kernel
  have hl : ∀ p, endedNotices (bench.notices p) = if p = .body then [3] else [] := by
    intro p
    cases p <;> decide +kernel
  intro p
  rw [hl p]
  refine ⟨by split <;> simp, fun n => ⟨fun hn => ?_, ?_⟩⟩
  · split at hn
    · rename_i hp
      obtain rfl : n = 3 := by simpa using hn
      exact hp ▸ he
    · cases hn
  · rintro ⟨j, hj, rfl, rfl, hu⟩
    simp [hd j hj hu]

theorem bench_historyOrdered : bench.tracker.historyOrdered := by
  refine ⟨by decide +kernel, ?_, trivial⟩
  intro h
  cases h

theorem bench_tableBounded : bench.tableBounded := by
  refine ⟨?_, ?_⟩ <;> decide +kernel

theorem bench_streamsAgree : bench.streamsAgree := by
  intro i
  cases i
  · exact ⟨fun h => absurd h (by decide +kernel), fun h => absurd h (by decide +kernel)⟩
  · exact ⟨fun _ => by decide +kernel, fun h => absurd h (by decide +kernel)⟩

theorem bench_recordsDistinct : recordsDistinct bench.records := by
  refine ⟨?_, ?_⟩ <;> decide +kernel

theorem bench_noticesCoalesced : ∀ p, noticesCoalesced (bench.notices p) := by
  intro p
  unfold noticesCoalesced
  cases p <;> decide +kernel

theorem bench_portsAgree : ∀ p, (bench.port p).agrees := by
  intro p
  cases p <;> refine ⟨?_, ?_⟩ <;> decide +kernel

theorem bench_portsFollowReset : bench.portsFollowReset := by
  intro p
  cases p <;> decide +kernel

theorem bench_timebaseHeld : bench.timebaseHeld := by
  intro h
  cases h

theorem bench_memoryAgrees : bench.memoryAgrees := by
  refine ⟨fun c _ => rfl, ?_, ?_, ?_⟩
  · intro c hc
    cases hc
  · intro h
    cases h
  · intro p
    cases p <;> decide +kernel

theorem awake_engineAgrees : awake.engineAgrees := by
  refine ⟨by decide +kernel, by decide +kernel, by decide +kernel, ?_, rfl, ?_⟩
  · intro n hn
    cases hn
  · intro c hc
    cases hc

theorem awake_memoryAgrees : awake.memoryAgrees := by
  refine ⟨?_, fun c _ => rfl, ?_, ?_⟩
  · intro c hc
    cases hc
  · intro h
    cases h
  · intro p
    cases p <;> decide +kernel

theorem bench_takes (k : ReqKind) (h : Hdr) (hp : k.permitted h.port = true) (hb : h.badLength = false) (he : h.early = false) :
    Takes k h bench := by
  refine ⟨?_, hp, hb, he⟩
  cases h.port <;> decide +kernel

/-! ### Witnesses: each shows operands and a state that meet the hypotheses of one statement, clause by clause -/

/-- The state with one port's record replaced. -/
def withLink (l : Link) : State := bench.setPort .body { bench.port .body with link := l }

theorem witness_StepRunsTheFrontCommand : (bench.withPending [.reset]).pending = [.reset] := rfl

theorem witness_EmptyQueueIsOneMicrosecond :
    bench.pending = [] ∧ bench.power ≠ .inReset ∧ bench.exposure.sequencesDistinct :=
  ⟨rfl, by decide +kernel, bench_sequencesDistinct⟩

theorem witness_PortTurnsRequestsAway :
    asRequest (.queryTime { bodyHdr with early := true }) = some (.queryTime, { bodyHdr with early := true }) ∧
      asRequest (.queryTime bodyHdr) = some (.queryTime, bodyHdr) ∧ bodyHdr.early = false ∧ ((withLink .reset).port .body).link = .reset ∧
      ((withLink .inProgress).port .body).link = .inProgress ∧ ((withLink .responseWaiting).port .body).link = .responseWaiting ∧
      (bench.port .mount).link = .idle ∧ ReqKind.resetPart.permitted .mount = false ∧ (bench.port .body).link = .idle ∧
      ReqKind.queryTime.permitted .body = true ∧ { bodyHdr with badLength := true }.badLength = true := by decide +kernel

/-- The three refusals, and both faults. -/
theorem witness_CommandsAnswer :
    exec (.unknownKind bodyLink 37 7) bench = .refused .notThisCommand ∧
      exec (.invalidOpeningByte bodyLink 0xA5) bench = .refused .notThisCommand ∧
      exec .bandBoundary { bench with jobs := { bench.jobs with table := [] } } = .fault .contextWithoutJob ∧
      exec .bandBoundary { bench with jobs := { bench.jobs with
        table := [{ stillJob with source := { address := 4294967296, pitch := 192 } }] } } =
          .fault .transferOutsideAddressSpace := ⟨rfl, rfl, rfl, rfl⟩

theorem witness_CommandsChangeTheirBlocksOnly :
    exec .reportAged bench = .next (after .reportAged bench) ∧ Block.store ∉ blocksOf .reportAged := ⟨rfl, by decide⟩

theorem witness_NoticesCoalesce :
    ((bench.port .body).link ≠ .reset ∧ (bench.port .body).mask.getLsbD Notice.lensChanged.kindBit = false) ∧
    (Notice.lensChanged.coalesced = true ∧ ∀ x ∈ [endedNotice], x.kindBit ≠ Notice.lensChanged.kindBit) ∧
      [endedNotice, .lensChanged] = [endedNotice] ++ .lensChanged :: [] ∧
      (∀ y ∈ [endedNotice, .protocolError 3], y.kindBit ≠ 2 ∧ y.kindBit ≠ 3) ∧ (∀ y ∈ [endedNotice], y.kindBit ≠ 4) := by
  decide +kernel

/-- Every law and agreement holds of one state whose next step answers a state. -/
theorem witness_StepKeepsBlocksCounted : ∃ s t, s.store.counted ∧ s.editsOwnStaging ∧ s.carrySourcesCurrent ∧ step s = .next t :=
  ⟨bench, _, bench_counted, bench_editsOwnStaging, bench_carrySourcesCurrent, rfl⟩

theorem witness_StepKeepsVersionsAndBinding :
    ∃ s t, s.store.retiredPinned ∧ s.store.keysDistinct ∧ s.bindingCurrent ∧ step s = .next t :=
  ⟨bench, _, bench_retiredPinned, bench_keysDistinct, bench_bindingCurrent, rfl⟩

theorem witness_StepKeepsPinsCounted :
    ∃ s t, s.pinsCounted ∧ s.refsPresent ∧ s.store.versionsDistinct ∧ s.store.retiredPinned ∧ s.waitingHoldNothing ∧
      s.bindingCurrent ∧ s.exposure.bounded ∧ s.exposure.sequencesRun ∧ s.numbersDistinct ∧ s.engineAgrees ∧
      s.noticesNameEnded ∧ s.tableBounded ∧ step s = .next t :=
  ⟨bench, _, bench_pinsCounted, bench_refsPresent, bench_versionsDistinct, bench_retiredPinned, bench_waitingHoldNothing,
    bench_bindingCurrent, bench_bounded, bench_sequencesRun, bench_numbersDistinct, bench_engineAgrees, bench_noticesNameEnded,
    bench_tableBounded, rfl⟩

theorem witness_StepKeepsHistoryOrdered : ∃ s t, s.tracker.historyOrdered ∧ step s = .next t :=
  ⟨bench, _, bench_historyOrdered, rfl⟩

theorem witness_StepKeepsExposureLogBounded :
    ∃ s t, s.exposure.bounded ∧ step s = .next t ∧ s.exposure.sequencesRun ∧ 1 ≤ s.exposure.nextSeq ∧
      s.exposure.nextSeq ≤ 65535 :=
  ⟨bench, _, bench_bounded, rfl, bench_sequencesRun, by decide, by decide⟩

theorem witness_StepKeepsJobsAndEngineAgreed :
    ∃ s t, s.tableBounded ∧ s.numbersDistinct ∧ s.engineAgrees ∧ s.noticesNameEnded ∧ s.streamsAgree ∧ step s = .next t :=
  ⟨bench, _, bench_tableBounded, bench_numbersDistinct, bench_engineAgrees, bench_noticesNameEnded, bench_streamsAgree, rfl⟩

theorem witness_StepKeepsRecordsAndNotices :
    ∃ s t, recordsDistinct s.records ∧ (∀ p, noticesCoalesced (s.notices p)) ∧ step s = .next t :=
  ⟨bench, _, bench_recordsDistinct, bench_noticesCoalesced, rfl⟩

theorem bench_areasAddressable : bench.areasAddressable := by
  refine ⟨?_, by decide +kernel⟩
  intro w hw
  cases hw
  decide

/-- The line that band 0 of job 1 writes lies from 4096 on: the byte before it, and the byte after it. -/
theorem witness_StepKeepsFrameMemorySound :
    (∃ s t, Memory.wf s.frameMem = true ∧ step s = .next t) ∧ bench.areasAddressable ∧ bench.engineAgrees ∧
      (exec .reportAged bench = .next (after .reportAged bench) ∧ 4095 < at4096.address + 0 * at4096.pitch ∧
        at4096.address + 15 * at4096.pitch + 64 * bytesPerPixel .rgb24 ≤ 7168) :=
  ⟨⟨{ bench with frameMem := [(3, 1), (4, 9)] }, _, by decide, rfl⟩, bench_areasAddressable, bench_engineAgrees, rfl, by decide,
    by decide⟩

theorem witness_StepKeepsPortsAndLimits :
    ∃ s t, s.limitsInRange ∧ s.countersInRange ∧ (∀ p, (s.port p).agrees) ∧ s.portsFollowReset ∧ s.timebaseHeld ∧
      s.memoryAgrees ∧ s.engineAgrees ∧ s.numbersDistinct ∧ step s = .next t :=
  ⟨bench, _, by unfold State.limitsInRange; decide, by unfold State.countersInRange; decide, bench_portsAgree,
    bench_portsFollowReset, bench_timebaseHeld, bench_memoryAgrees, bench_engineAgrees, bench_numbersDistinct, rfl⟩

/-- Slot 3 with its version, and a retired one of one pin and of two. -/
theorem witness_NumbersLookupsAndPins :
    bench.store.keysDistinct ∧ ((bench.store.slot 3).lastIssued ≤ 65535 ∧ (bench.store.slot 3).numbers.length < 65535) ∧
      ((bench.store.slot 3).live = some zoom ∧ ∀ x ∈ (bench.store.slot 3).retired, x.number ≠ zoom.number) ∧
      ∀ n ∈ [1, 2], let v := { zoom with number := 7, pins := n }
        let st := bench.store.setSlot 4 { Slot.empty with retired := [zoom] ++ v :: [] }
        (st.slot 4).retired = [zoom] ++ v :: [] ∧ (∀ x ∈ [zoom], x.number ≠ v.number) ∧ (st.slot 4).live = none := by
  refine ⟨bench_keysDistinct, ?_, ?_, ?_⟩ <;> decide +kernel

/-- The version with a chroma section. -/
def coloured : Version := { zoom with chroma := some [noTerms, noTerms, noTerms, noTerms] }

theorem witness_ReadsDescribeTheSlot :
    Takes .readProfile bodyHdr bench ∧ Takes .readNode bodyHdr bench ∧ (31 < 32 ∧ 19 < 20 ∧ 39 < 40) ∧
      ((31 : Fin 32).val = 31 ∧ (bench.store.slot 31).live = none) ∧
      ((bench.store.slot 3).live = some zoom ∧ zoom.nodes.length ≤ 4 ∧ zoom.nodes[3]? = zoomNodes[3]? ∧ zoom.chroma = none) ∧
      (((bench.store.setSlot 3 { Slot.empty with live := some coloured }).slot 3).live = some coloured ∧
        coloured.nodes[0]?.isSome ∧ (coloured.chroma.bind fun l => l[0]?) = some noTerms) := by
  refine ⟨bench_takes _ _ rfl rfl rfl, bench_takes _ _ rfl rfl rfl, by decide, ?_, ?_, ?_⟩ <;> decide +kernel

theorem witness_QueryStoreAnswersTheCounts :
    Takes .queryStore bodyHdr bench ∧ bench.store.counted ∧ bench.editsOwnStaging ∧ bench.pinsCounted ∧
      bench.store.retiredPinned ∧ bench.store.versionsDistinct ∧ bench.exposure.bounded ∧ bench.tableBounded :=
  ⟨bench_takes _ _ rfl rfl rfl, bench_counted, bench_editsOwnStaging, bench_pinsCounted, bench_retiredPinned, bench_versionsDistinct,
    bench_bounded, bench_tableBounded⟩

theorem witness_DeleteProfileEmptiesTheSlot :
    Takes .deleteProfile deskHdr bench ∧ Takes .deleteProfile bodyHdr recommit ∧ (bench.store.slot 0).live = none ∧
      (bench.store.slot 3).live = some zoom ∧ bench.editHolder 3 = none ∧ (recommit.store.slot 3).live = some zoom ∧
      (recommit.editHolder 3).isSome := by
  refine ⟨bench_takes _ _ rfl rfl rfl, ⟨by decide +kernel, rfl, rfl, rfl⟩, ?_⟩
  decide +kernel

/-- OPEN EDIT: in range and out of range at each end; an edit of its own, one of the other port, none; a full store and one block
free. -/
theorem witness_OpenEditMakesAStagingVersion :
    Takes .openEdit deskHdr bench ∧ Takes .openEdit bodyHdr bench ∧ (31 ≤ 31 ∧ 1 ≤ 65535 ∧ (-512 : Int) ≤ 512) ∧
      (bench.edit .body).isSome ∧ bench.edit .transmitter = none ∧
      (∃ e, bench.edit .body = some e ∧ e.slot = 5 ∧ e.slot ≠ 0) ∧ bench.store.used < 1536 ∧
      1536 ≤ { bench.store with used := 1536 }.used ∧ { bench.store with used := 1535 }.used < 1536 := by
  refine ⟨bench_takes _ _ rfl rfl rfl, bench_takes _ _ rfl rfl rfl, by decide, by decide +kernel, rfl, ⟨_, rfl, ?_⟩, ?_⟩ <;>
    decide +kernel

/-- The edit of slot 5 and its staging version. -/
theorem bench_edit :
    ∃ e v, bench.edit .body = some e ∧ (bench.store.slot e.slot).staging = some v ∧ v.nodes = [smallNode] ∧
      bench.edit .transmitter = none := ⟨_, _, rfl, rfl, rfl, rfl⟩

/-- WRITE NODES: each place of the two checks can be the first to fail, and none; forty nodes and forty-one. -/
theorem witness_WriteNodesAppends :
    Takes .writeNodes bodyHdr bench ∧ Takes .writeNodes deskHdr bench ∧
      FirstFailing (fun i => InOrderAt ([smallNode] ++ [smallNode]) (1 + i)) 0 ∧
      (∀ i, i < 1 → InOrderAt ([smallNode] ++ [{ smallNode with focus := 1 }]) (1 + i)) ∧
      FirstFailing (fun i => ∀ n, [{ smallNode with focus := 4096 }][i]? = some n → NodeInRange n) 0 ∧
      NodeInRange { smallNode with focus := 4095, k1 := 2097152, k2 := -2097152 } ∧
      40 < 37 + [smallNode, smallNode, smallNode, smallNode].length ∧
      36 + [smallNode, smallNode, smallNode, smallNode].length ≤ 40 := by
  refine ⟨bench_takes _ _ rfl rfl rfl, bench_takes _ _ rfl rfl rfl, ⟨?_, by simp⟩, ?_, ⟨?_, by simp⟩, ?_, by decide, by decide⟩
  · intro h
    have := h smallNode smallNode (by decide) rfl rfl
    revert this
    decide
  · intro i hi a b _ ha hb
    obtain rfl : i = 0 := by omega
    cases ha
    cases hb
    decide
  · intro h
    have := h _ rfl
    revert this
    unfold NodeInRange
    decide
  · unfold NodeInRange
    decide

theorem witness_WriteCropAndChroma :
    Takes .writeCrop bodyHdr bench ∧ Takes .writeChroma bodyHdr bench ∧ Takes .writeCrop deskHdr bench ∧
      (∃ e v, bench.edit .body = some e ∧ (bench.store.slot e.slot).staging = some v ∧ chromaCount v.chroma = 0 ∧
        v.nodes.length = 1) ∧
      (¬ (1 = 0 + 0 ∧ 1 < 1) ∧ (0 = 0 + 0 ∧ 0 < 1)) ∧ TermsInRange { noTerms with redLinear := 262144, blueCubic := -262144 } ∧
      ¬ TermsInRange { noTerms with redLinear := 262145 } ∧ (8191 < 8192 ∧ 8192 ≤ 8192 ∧ 32768 ≤ 32768 ∧ 32768 < 32769) := by
  refine ⟨bench_takes _ _ rfl rfl rfl, bench_takes _ _ rfl rfl rfl, bench_takes _ _ rfl rfl rfl, ⟨_, _, rfl, rfl, rfl, rfl⟩, by decide, ?_, ?_,
    by decide⟩ <;> unfold TermsInRange <;> decide

/-- COMMIT EDIT: no edit; a new slot; a slot whose pinned version is retired, with sections carried; no geometry; a wrong chroma
count; chroma carried under written nodes; a key that another slot holds. -/
theorem witness_CommitEditMakesItLive :
    Takes .commitEdit deskHdr bench ∧ bench.edit .transmitter = none ∧ Takes .commitEdit bodyHdr bench ∧
      (∃ e v, bench.edit .body = some e ∧ (bench.store.slot e.slot).staging = some v ∧
        (bench.store.slot e.slot).live = none ∧ e.carrySource = none ∧ v.nodes ≠ [] ∧ ¬ v.chroma.isSome ∧
        (∀ i w, i ≠ e.slot → (bench.store.slot i).live = some w → w.key ≠ v.key) ∧ 0 ≤ 1536 - bench.store.used) ∧
      Takes .commitEdit deskHdr recommit ∧
      (∃ e v w, recommit.edit .transmitter = some e ∧ (recommit.store.slot e.slot).staging = some v ∧
        (recommit.store.slot e.slot).live = some w ∧ e.carrySource = some w.number ∧ e.carry.geometry = true ∧ v.nodes = [] ∧
        w.pins ≠ 0 ∧ 4 ≤ 1536 - recommit.store.used) ∧
      (coloured.chroma.isSome ∧ chromaCount (some [noTerms]) ≠ [smallNode, smallNode].length ∧
        (zoom.key = zoom.key ∧ (bench.store.slot 3).live = some zoom ∧ (3 : Fin 32) ≠ 5)) := by
  refine ⟨bench_takes _ _ rfl rfl rfl, rfl, bench_takes _ _ rfl rfl rfl, ⟨_, _, rfl, rfl, rfl, rfl, ?_⟩, ⟨by decide +kernel, rfl, rfl, rfl⟩,
    ⟨_, _, zoom, rfl, rfl, by decide +kernel, by decide +kernel, ?_⟩, ?_⟩
  · refine ⟨by decide, by decide, ?_, by decide⟩
    intro i w _ hw
    rw [(bench_live i w hw).2]
    decide
  · decide +kernel
  · decide +kernel

theorem witness_AbortEditFreesTheStaging :
    Takes .abortEdit bodyHdr bench ∧ Takes .abortEdit deskHdr bench ∧ bench.edit .transmitter = none ∧ bench.editsOwnStaging ∧
      ∃ e v, bench.edit .body = some e ∧ (bench.store.slot e.slot).staging = some v :=
  ⟨bench_takes _ _ rfl rfl rfl, bench_takes _ _ rfl rfl rfl, rfl, bench_editsOwnStaging, _, _, rfl, rfl⟩

theorem witness_LensAttachedBindsTheLens :
    Takes .lensAttached mountHdr bench ∧ bench.tracker.lens.isSome ∧ bench.exposure.sequencesDistinct ∧
      Takes .lensAttached mountHdr awake ∧ awake.tracker.lens = none ∧
      ((1 ≤ 65535 ∧ 65535 ≤ 65535) ∧ 255 ≤ 255 ∧ 0 ≤ 255) ∧ ¬ (1 ≤ 0) ∧ ¬ (65536 ≤ 65535) :=
  ⟨bench_takes _ _ rfl rfl rfl, by decide +kernel, bench_sequencesDistinct, ⟨rfl, rfl, rfl, rfl⟩, rfl, by decide, by decide,
    by decide⟩

theorem witness_LensDetachedResolvesDetached :
    Takes .lensDetached mountHdr bench ∧ bench.tracker.lens.isSome ∧ bench.exposure.sequencesDistinct ∧
      Takes .lensDetached mountHdr awake ∧ awake.tracker.lens = none :=
  ⟨bench_takes _ _ rfl rfl rfl, by decide +kernel, bench_sequencesDistinct, ⟨rfl, rfl, rfl, rfl⟩, rfl⟩

/-- LENS STATE: a stale stamp, an equal one, and the awaiting exposure 2 with its state not yet there and found. -/
theorem witness_LensStateJoinsTheHistory :
    Takes .lensState mountHdr bench ∧ awake.tracker.lens = none ∧ bench.tracker.lens.isSome ∧
      (∃ n, bench.tracker.history.getLast? = some n ∧ n.aged = false ∧ earlier 8989999 n.stamp = true ∧
        ¬ earlier 8990000 n.stamp = true) ∧
      bench.exposure.sequencesDistinct ∧ exposure2 ∈ bench.exposure.log ∧ exposure2.key.isSome ∧
      exposure2.attachCount = bench.tracker.attachCount ∧
      seek (bench.tracker.history ++ [{ stamp := 8990000, lens := someLens, aged := false }]) 8996000 = .notYet ∧
      seek (bench.tracker.history ++ [{ stamp := 8999000, lens := someLens, aged := false }]) 8996000 = .found someLens false := by
  refine ⟨bench_takes _ _ rfl rfl rfl, rfl, ?_, ⟨_, rfl, ?_⟩, bench_sequencesDistinct, ?_⟩ <;> decide +kernel

theorem witness_LimitsAreSetAndKept :
    Takes .setLensTiming bodyHdr bench ∧ Takes .setPauseLimit bodyHdr bench ∧ (0 < 1 ∧ 100 < 101 ∧ 1 ≤ 1 ∧ 100 ≤ 100) ∧
      (9 < 10 ∧ 2000 < 2001 ∧ 10 ≤ 10 ∧ 2000 ≤ 2000) ∧ exec .reportAged bench = .next (after .reportAged bench) ∧
      (after .reportAged bench).power ≠ .inReset :=
  ⟨bench_takes _ _ rfl rfl rfl, bench_takes _ _ rfl rfl rfl, by decide, by decide, rfl, by decide +kernel⟩

theorem witness_QueryExposureAnswersTheRecord :
    (bench.port .body).link = .idle ∧ (bodyHdr.badLength = false ∧ bodyHdr.early = false) ∧ mountHdr.port ≠ .body ∧
      (∀ e ∈ bench.exposure.log, e.seq ≠ 4) ∧ bench.exposure.sequencesDistinct ∧
      (exposure2 ∈ bench.exposure.log ∧ exposure2.seq = 2 ∧ exposure2.state = .awaiting 8998000 8996000 9006000) ∧
      (exposure3 ∈ bench.exposure.log ∧ exposure3.state = .opened 38999000) ∧
      (exposure1 ∈ bench.exposure.log ∧ exposure1.state =
        .resolved 8904000 8902000 { lens := some someLens, flags := StateFlags.empty, ref := some ref33 }) ∧
      ((after .openLimitExpiry { bench with timebase := 38999000 }).exposure.log.map ExposureRec.state)[2]? =
        some .abandoned := by
  refine ⟨?_, ⟨rfl, rfl⟩, ?_, ?_, bench_sequencesDistinct, ?_⟩ <;> decide +kernel

theorem witness_EdgesMoveTheFilters :
    (after .reset quiet).power = .inReset ∧ bench.power ≠ .inReset ∧ bench.filter .exps = .low ∧
      started.filter .exps ≠ .low := by decide +kernel

/-- EXPS: qualified at exactly one microsecond; a log of eight whose oldest record awaits and has a waiting job. -/
def fullLog : State :=
  { started with exposure := { started.exposure with
      log := exposure2 :: List.replicate 7 { exposure1 with state := .abandoned } } }

theorem witness_ExpsMakesARecord :
    started.exposure.exps = .qualifying 8999999 ∧ reached started.timebase (8999999 + 1) = true ∧
      fullLog.exposure.exps = .qualifying 8999999 ∧ 8 ≤ fullLog.exposure.log.length ∧ exposure2.isAwaiting = true ∧
      fullLog.numbersDistinct ∧ waitingJob ∈ fullLog.jobs.table ∧ waitingJob.state = .waiting ∧ waitingJob.seq = exposure2.seq ∧
      waitingJob.suppressed = false ∧ started.power ≠ .standby := by
  refine ⟨rfl, ?_, rfl, ?_, ?_, bench_numbersDistinct, ?_⟩ <;> decide +kernel

/-- EXPE: exposure 3 is OPEN and ends at once, or before its start; its state is found, or not there yet; no lens at its start;
another lens; no lens. -/
theorem witness_ExpeEndsTheExposure :
    closing.exposure.expe = .qualifying 8999999 ∧ reached closing.timebase (8999999 + 1) = true ∧
      closing.exposure.log = [exposure1, exposure2] ++ exposure3 :: [] ∧ exposure3.isOpen = true ∧
      (∀ y ∈ [exposure1, exposure2], y.isOpen = false) ∧ closing.exposure.sequencesDistinct ∧
      later exposure3.start 8999999 = false ∧ later exposure3.start 8998999 = true ∧ exposure3.key.isSome ∧
      closing.tracker.attachCount = exposure3.attachCount ∧ closing.tracker.lens ≠ none ∧ awake.tracker.lens = none ∧
      { exposure3 with key := none }.key = none ∧ seek closing.tracker.history 8999499 = .notYet ∧
      seek (closing.tracker.history ++ [{ stamp := 8999999, lens := someLens, aged := false }]) 8999499 = .found someLens false ∧
      ∀ e ∈ awake.exposure.log, e.isOpen = false := by
  refine ⟨rfl, by decide +kernel, rfl, by decide +kernel, by decide +kernel, bench_sequencesDistinct, ?_⟩
  decide +kernel

theorem witness_ExposureTimersExpire :
    (exposure3 ∈ bench.exposure.log ∧ exposure3.state = .opened 38999000 ∧ reached 38999000 38999000 = true) ∧
      bench.exposure.log = [exposure1] ++ exposure2 :: [exposure3] ∧
      exposure2.state = .awaiting 8998000 8996000 9006000 ∧ reached 9006000 9006000 = true ∧
      bench.exposure.sequencesDistinct ∧ bench.tracker.history.getLast?.isSome ∧ awake.tracker.history = [] := by
  refine ⟨by decide +kernel, rfl, rfl, by decide +kernel, bench_sequencesDistinct, by decide +kernel, rfl⟩

/-- The four cases of the search, and an aged report that counts as early. -/
theorem witness_StatesAreSoughtAndHanded :
    let r := fun (at_ : Stamp) (aged : Bool) => ({ stamp := at_, lens := someLens, aged := aged } : Report)
    (later (r 100 false).stamp 150 = false ∧ later (r 200 false).stamp 150 = true) ∧
      ((r 150 false).aged = false ∧ (r 150 false).stamp = 150 ∧ later (r 150 false).stamp 150 = false) ∧
      (r 999 true).aged = true ∧ bench.findJob 2 = some waitingJob ∧ bench.numbersDistinct := by
  refine ⟨by decide, by decide, rfl, by decide +kernel, bench_numbersDistinct⟩

theorem witness_ConfigureStreamReplaces :
    Takes .configureStream bodyHdr bench ∧ (bench.stream .preview).state = .halted ∧ (bench.stream .still).state ≠ .halted ∧
      smallArgs.format = .is .rgb24 ∧ smallArgs.border = .is .edge ∧ smallArgs.policy = .is .pass ∧ smallArgs.crop = .is .profile :=
  ⟨bench_takes _ _ rfl rfl rfl, by decide +kernel, by decide +kernel, rfl, rfl, rfl, rfl⟩

theorem witness_StartStreamChecksAndRuns :
    Takes .startStream bodyHdr bench ∧ (bench.stream .still).state = .running ∧ (bench.stream .preview).state = .halted ∧
      (bench.stream .preview).config.failing = some .srcWidth ∧ smallGeometry.failing = none := by
  refine ⟨bench_takes _ _ rfl rfl rfl, ?_⟩
  decide +kernel

theorem witness_StopStreamDrainsOrFlushes :
    Takes .stopStream bodyHdr bench ∧ (bench.stream .preview).state = .halted ∧ (bench.stream .still).state = .running ∧
      bench.numbersDistinct ∧ bench.engineAgrees ∧ bench.unendedOf .still ≠ [] ∧
      ∃ j ∈ bench.unendedOf .still, j.state ≠ .running ∧ j.suppressed = false := by
  refine ⟨bench_takes _ _ rfl rfl rfl, ?_, ?_, bench_numbersDistinct, bench_engineAgrees, ?_, ?_⟩ <;> decide +kernel

theorem witness_SubmitFrameMakesAJob :
    Takes .submitFrame bodyHdr bench ∧ (bench.stream .still).state = .running ∧ (bench.stream .preview).state ≠ .running ∧
      (∀ e ∈ bench.exposure.log, e.seq ≠ 9) ∧ bench.exposure.log = [exposure1] ++ exposure2 :: [exposure3] ∧
      (∀ y ∈ [exposure1], y.seq ≠ exposure2.seq) ∧ exposure3.isOpen = true ∧ exposure2.isOpen = false ∧
      exposure2.state ≠ .abandoned ∧ exposure2.isAwaiting = true ∧
      windowFault bench.memPort.window at0 64 16 .rgb24 = none ∧ windowFault bench.memPort.window at4096 64 16 .rgb24 = none ∧
      windowFault bench.memPort.window { at0 with address := 32 } 64 16 .rgb24 = some .alignment ∧
      bench.jobs.table.length < 12 ∧ bench.numbersDistinct ∧ bench.engineAgrees ∧
      (∀ j ∈ bench.jobs.table, j.suppressed = true → j.state = .running) := by
  refine ⟨bench_takes _ _ rfl rfl rfl, ?_, ?_, ?_, rfl, ?_, ?_, ?_, ?_, ?_, ?_, ?_, ?_, ?_, bench_numbersDistinct, bench_engineAgrees,
    ?_⟩ <;> decide +kernel

theorem witness_QueryJobAnswersTheEntry :
    (bench.port .body).link = .idle ∧ bodyHdr.badLength = false ∧ bodyHdr.early = false ∧ bench.findJob 9 = none ∧ bench.findJob 2 = some waitingJob ∧
      waitingJob.port = .body ∧ waitingJob.port ≠ .transmitter := by decide +kernel

/-- CANCEL JOB of an ENDED, a RUNNING, a WAITING, a PAUSED and a SUSPENDED job. -/
theorem witness_CancelJobEndsOrMarks :
    Takes .cancelJob bodyHdr bench ∧ bench.findJob 9 = none ∧ (bench.findJob 3).map Job.state = some (.ended .done) ∧
      (bench.findJob 1).map Job.state = some .running ∧ (bench.findJob 2).map Job.state = some .waiting ∧
      bench.numbersDistinct ∧ (paused.findJob 1).map Job.state = some .paused ∧ paused.engineAgrees ∧
      (overtaken.findJob 1).map Job.state = some .suspended ∧ overtaken.engineAgrees := by
  refine ⟨bench_takes _ _ rfl rfl rfl, ?_, ?_, ?_, ?_, bench_numbersDistinct, ?_, paused_engineAgrees, ?_, overtaken_engineAgrees⟩ <;>
    decide +kernel

/-- The wake that starts the STILL job: with its version, and without one under each policy; memory withdrawn; a busy engine. -/
theorem witness_WakeEndSelectsAJob :
    waking.power = .waking 9000000 ∧ reached waking.timebase 9000000 = true ∧ waking.engine.now = .idle ∧
      waking.engine.shadow = none ∧ waking.memPort.grant = .granted ∧ waking.memPort.pendingWithdrawal = false ∧
      waking.jobs.table = [] ++ stillJob :: [waitingJob, endedJob] ∧ stillJob.state = .queued ∧ waking.numbersDistinct ∧
      (∀ x ∈ waking.jobs.table, x.cls = .urgent → x.state ≠ .queued) ∧ stillJob.ref = some ref33 ∧
      stillJob.lens = some someLens ∧ (waking.store.find ref33).isSome ∧ { stillJob with ref := none }.geom.policy = .pass ∧
      awake.memPort.grant = .withdrawn ∧ bench.engine.now ≠ .idle := by
  have hn : waking.numbersDistinct := by
    unfold State.numbersDistinct
    decide +kernel
  refine ⟨rfl, ?_, rfl, rfl, rfl, rfl, rfl, rfl, hn, ?_⟩ <;> decide +kernel

/-- An URGENT job with its version, QUEUED. -/
def urgentJob : Job := { stillJob with number := 4, cls := .urgent, port := .transmitter }

/-- The same without a version and under REJECT, which fails at its start. -/
def rejectedJob : Job := { urgentJob with ref := none, geom := { smallGeometry with policy := .reject } }

/-- The bench with a second band to come and an URGENT job QUEUED. -/
def twoBands (x : Job) : State :=
  { bench with jobs := { bench.jobs with
      table := [{ stillJob with state := .running, bandsTotal := 2 }, waitingJob, endedJob, x] } }

/-- The band of the STILL job goes on: nothing pends; an URGENT job takes the engine, or fails at its start; a withdrawal pends. -/
theorem witness_BandBoundaryTakesItsSteps :
    bench.engine.now = .inBand context1 ∧ (bench.findJob 1).isSome ∧
      ∀ x ∈ [urgentJob, rejectedJob],
        (twoBands x).engine.now = .inBand context1 ∧
        (((twoBands x).findJob 1).map fun j => (j.areasInside, j.state, j.cancelPending, j.suppressed, j.bandsTotal, j.cls)) =
          some (true, .running, false, false, 2, .still) ∧
        ((twoBands x).jobs.table.map Job.number).Nodup ∧ (twoBands x).memPort.pendingWithdrawal = false ∧
        (twoBands x).oldestEligible .urgent = some x ∧ ((twoBands x).startInputs x).isSome = x.ref.isSome ∧
        ((twoBands x).jobs.table.filter fun y => decide (y.cls = .urgent) && decide (y.state = .queued)) = [x] := by
  refine ⟨rfl, by decide +kernel, ?_⟩
  intro x hx
  fin_cases hx <;> refine ⟨?_, ?_, ?_, ?_, ?_, ?_, ?_⟩ <;> decide +kernel

/-- The last band: of the STILL job with nothing, or with a STILL job, to start; of an URGENT job over the shadow, granted, with a
withdrawal pending, and with another URGENT job to start. -/
theorem witness_BandBoundaryTakesItsSteps_ends :
    ((bench.findJob 1).map Job.bandsTotal = some (context1.nextBand + 1) ∧ bench.engine.shadow = none ∧
      bench.oldestEligible .urgent = none ∧ (bench.oldestEligible .still).or (bench.oldestEligible .preview) = none) ∧
    (let s := { bench with jobs := { bench.jobs with table := bench.jobs.table ++ [{ stillJob with number := 5 }] } }
     (s.oldestEligible .urgent = none ∧
      (s.oldestEligible .still).or (s.oldestEligible .preview) = some { stillJob with number := 5 } ∧
      { stillJob with number := 5 }.geom.policy = .pass)) ∧
    (overtaken.engine = { now := .inBand { context1 with job := 4 }, shadow := some { context1 with nextBand := 1 } } ∧
      (overtaken.findJob 4).map (fun j => (j.state, j.cls, j.bandsTotal, j.areasInside)) = some (.running, .urgent, 1, true) ∧
      (overtaken.findJob 1).isSome ∧ context1.job ≠ 4 ∧ overtaken.memPort.pendingWithdrawal = false ∧
      overtaken.memPort.grant = .granted ∧ overtaken.oldestEligible .urgent = none ∧
      (overtaken.jobs.table.map Job.number).Nodup) ∧
    (let s := { overtaken with jobs := { overtaken.jobs with
      table := overtaken.jobs.table ++ [{ urgentJob with number := 5 }] } }
     s.oldestEligible .urgent = some { urgentJob with number := 5 } ∧ (s.startInputs { urgentJob with number := 5 }).isSome) := by
  decide +kernel

/-- A job under REJECT that waits with a version of its own: its pin keeps the version. -/
def pinned : State :=
  { bench with
    store := bench.store.pin ref33
    jobs := { bench.jobs with
      table := [{ stillJob with state := .running }, { stillJob with number := 2, geom := rejectedJob.geom }, endedJob] } }

theorem pinned_pinsCounted : pinned.pinsCounted := by
  have hr : ∀ i, (pinned.store.slot i).retired = [] := by decide +kernel
  have hl : ∀ i : Fin 32, (pinned.store.slot i).live = if i = 3 then some { zoom with pins := 3 } else none := by decide +kernel
  intro i v hv
  rw [hl i, hr i] at hv
  rcases hv with hv | hv
  · split at hv
    · cases hv
      rename_i h
      subst h
      decide +kernel
    · cases hv
  · cases hv

theorem witness_BandBoundaryTakesItsSteps_rejects :
    pinned.pinsCounted ∧ pinned.engine.now = .inBand context1 ∧ pinned.oldestEligible .urgent = none ∧
      (pinned.oldestEligible .still).map (fun x => (x.number, x.geom.policy, (pinned.startInputs x).isSome)) =
        some (2, .reject, true) :=
  ⟨pinned_pinsCounted, rfl, by decide +kernel, by decide +kernel⟩

theorem bench_bandLines : (bandOutput bench.frameMem { stillJob with state := .running, trueFocal := some 1272 } context1.ws 0).lines.length =
    16 := by
  simp only [bandOutput, List.length_map, List.length_zip, bandPoints]
  decide

theorem witness_BusErrorFailsTheJob :
    ∃ j, bench.engine.now = .inBand context1 ∧ bench.findJob context1.job = some j ∧ j.areasInside = true ∧
      bench.numbersDistinct ∧ j.suppressed = false ∧ 15 < (bandOutput bench.frameMem j context1.ws context1.nextBand).lines.length :=
  ⟨{ stillJob with state := .running, trueFocal := some 1272 }, rfl, by decide +kernel, by decide +kernel, bench_numbersDistinct,
    rfl, by rw [show context1.nextBand = 0 from rfl, bench_bandLines]; decide⟩

/-- The window at both ends of the address space, with memory granted, with jobs left, and free. -/
theorem witness_FrameMemoryIsLentAndTaken :
    Takes .setWindow bodyHdr bench ∧ Takes .grantMemory bodyHdr paused ∧ Takes .withdrawMemory bodyHdr bench ∧
      (4294967232 % 64 = 0 ∧ 4294967232 + 64 ≤ 2 ^ 32) ∧ ¬ (4294967232 + 128 ≤ 2 ^ 32) ∧ bench.memPort.grant = .granted ∧
      paused.memPort.grant = .withdrawn ∧ (paused.jobs.table.filter Job.unended).length ≠ 0 ∧
      awake.memPort.grant = .withdrawn ∧ (awake.jobs.table.filter Job.unended).length = 0 ∧
      paused.engine.now = .holding context1 ∧ (paused.findJob 1).map Job.state = some .paused ∧ paused.numbersDistinct ∧
      awake.engine.now = .idle ∧ quiet.engine.now = .idle ∧ bench.engine.now = .inBand context1 := by
  refine ⟨bench_takes _ _ rfl rfl rfl, ⟨by decide +kernel, rfl, rfl, rfl⟩, bench_takes _ _ rfl rfl rfl, by decide, by decide, rfl, rfl, ?_, rfl, ?_,
    rfl, ?_, bench_numbersDistinct, rfl, rfl, rfl⟩ <;> decide +kernel

/-- A grant that finds a PAUSED STILL job and a QUEUED URGENT job, of either policy. -/
theorem witness_FrameMemoryIsLentAndTaken_preempted :
    ∀ x ∈ [urgentJob, { urgentJob with geom := rejectedJob.geom }],
      let s := { paused with jobs := { paused.jobs with table := paused.jobs.table ++ [x] } }
      s.engine.now = .holding context1 ∧ (s.findJob 1).map (fun j => (j.state, j.cls)) = some (.paused, .still) ∧
        s.power = .active ∧ s.memPort.pendingWithdrawal = false ∧
        (s.jobs.table.find? fun y => decide (y.state = .queued) && decide (y.cls = .urgent)) = some x ∧
        (s.startInputs x).isSome := by decide +kernel

/-- A grant that finds the engine IDLE, with a job that starts, with one that fails at its start, and with none. -/
theorem witness_FrameMemoryIsLentAndTaken_starts :
    ∀ l ∈ [[stillJob], [urgentJob, stillJob], [rejectedJob], []],
      let s := { quiet with
        memPort := { quiet.memPort with grant := .withdrawn }, jobs := { quiet.jobs with table := l } }
      let oldest := fun k => s.jobs.table.find? fun y => decide (y.state = .queued) && decide (y.cls = k)
      s.memPort.grant = .withdrawn ∧ s.engine = { now := .idle, shadow := none } ∧ s.power = .active ∧
        s.memPort.pendingWithdrawal = false ∧ (s.jobs.table.map Job.number).Nodup ∧
        (oldest .urgent).or ((oldest .still).or (oldest .preview)) = l.head? ∧
        ∀ x ∈ l, x = rejectedJob ∨ (s.startInputs x).isSome := by decide +kernel

theorem witness_QueryMemoryAnswersThePort :
    Takes .queryMemory bodyHdr bench ∧ bench.memoryAgrees ∧ bench.limitsInRange ∧ bench.tableBounded :=
  ⟨bench_takes _ _ rfl rfl rfl, bench_memoryAgrees, by unfold State.limitsInRange; decide, bench_tableBounded⟩

theorem witness_PauseExpiryEndsTheJob :
    paused.memPort.pauseTimer = some { job := 1, expiry := 9000000 } ∧ reached paused.timebase 9000000 = true ∧
      (paused.findJob 1).map (fun j => (j.state, j.suppressed)) = some (.paused, false) ∧ paused.numbersDistinct ∧
      paused.memPort.grant = .withdrawn ∧ paused.engine.now.job = some 1 ∧ paused.engine.shadow = none := by
  refine ⟨rfl, ?_, ?_, bench_numbersDistinct, rfl, rfl, rfl⟩ <;> decide +kernel

/-- A PAUSED URGENT job over the shadow of the STILL job. -/
theorem witness_PauseExpiryEndsTheJob_shadow :
    let s := { overtaken with
      engine := { overtaken.engine with now := .holding { context1 with job := 4 } }
      memPort := { paused.memPort with pauseTimer := some { job := 4, expiry := 9000000 } } }
    s.engine.shadow = some { context1 with nextBand := 1 } ∧ context1.job ≠ 4 ∧ (s.findJob 1).isSome ∧
      s.engine.now.job = some 4 ∧ s.memPort.grant = .withdrawn := by decide +kernel

theorem witness_ReadRecordsWalksTheList :
    (bench.port .transmitter).link = .idle ∧ deskHdr.badLength = false ∧ deskHdr.early = false ∧ bodyHdr.port ≠ .transmitter ∧
      (∀ r ∈ bench.records, r.seq ≠ 2) ∧ awake.records = [] ∧ bench.records = [] ++ [record1] ∧
      [record1].getLast? = some record1 ∧ [record1].head?.map FrameRecord.seq = some 1 := by decide +kernel

theorem witness_SubmitUrgentMakesAJob :
    Takes .submitUrgent deskHdr bench ∧ (pickArgs.seq ≠ 0 ∧ 64 ≤ pickArgs.outWidth ∧ 16 ≤ pickArgs.outHeight) ∧
      pickArgs.border ≠ .is .fill ∧ (∀ r ∈ bench.records, r.seq ≠ 2) ∧ bench.records = [] ++ record1 :: [] ∧
      windowFault bench.memPort.window pickArgs.source 64 16 .rgb24 = none ∧
      windowFault bench.memPort.window pickArgs.dest 64 16 .rgb24 = none ∧
      (bench.jobs.table.filter fun j => decide (j.port = .transmitter)).length < 2 ∧ bench.jobs.table.length < 12 ∧
      bench.numbersDistinct ∧ bench.engineAgrees ∧ record1.ref = some ref33 ∧
      (bench.store.find ref33).map Version.key = record1.key := by
  refine ⟨bench_takes _ _ rfl rfl rfl, ?_, ?_, ?_, rfl, ?_, ?_, ?_, ?_, bench_numbersDistinct, bench_engineAgrees, rfl, ?_⟩ <;>
    decide +kernel

theorem witness_StandbyIsTakenWhenNoJobIsUnended :
    (bench.port .body).link = .idle ∧ (bodyHdr.badLength = false ∧ bodyHdr.early = false) ∧ bench.power ≠ .inReset ∧ deskHdr.port ≠ .body ∧
      (bench.jobs.table.filter Job.unended).length ≠ 0 ∧ (awake.port .body).link = .idle ∧ awake.power ≠ .inReset ∧
      (awake.jobs.table.filter Job.unended).length = 0 ∧ awake.engineAgrees ∧ awake.memoryAgrees := by
  refine ⟨?_, ?_, ?_, ?_, ?_, ?_, ?_, ?_, awake_engineAgrees, awake_memoryAgrees⟩ <;> decide +kernel

theorem witness_PlainRequestsAnswer :
    Takes .queryTime mountHdr bench ∧ Takes .resetPart bodyHdr bench ∧ Takes .setNoticeMask deskHdr bench ∧
      Takes .queryStream bodyHdr bench ∧ Takes .queryLens deskHdr bench ∧ Takes .wake bodyHdr bench ∧
      ((32 : Byte).toNat = 32 ∧ (31 : Byte).toNat < 32) ∧ awake.tracker.lens = none ∧
      (∃ a r, bench.tracker.lens = some a ∧ bench.tracker.history.getLast? = some r ∧ a.bound = some ref33) ∧
      bench.power ≠ .standby :=
  ⟨bench_takes _ _ rfl rfl rfl, bench_takes _ _ rfl rfl rfl, bench_takes _ _ rfl rfl rfl, bench_takes _ _ rfl rfl rfl, bench_takes _ _ rfl rfl rfl,
    bench_takes _ _ rfl rfl rfl, by decide, rfl, ⟨_, _, rfl, rfl, rfl⟩, by decide +kernel⟩

theorem witness_NoticesLeaveAndPortsReset :
    Takes .fetchNotices bodyHdr bench ∧ Takes .resetPort bodyHdr bench ∧ Takes .resetPort mountHdr bench ∧
      bench.numbersDistinct ∧ bench.engineAgrees ∧ bench.noticesNameEnded ∧
      (∀ j ∈ bench.jobs.table, j.suppressed = true → j.state = .running) :=
  ⟨bench_takes _ _ rfl rfl rfl, bench_takes _ _ rfl rfl rfl, bench_takes _ _ rfl rfl rfl, bench_numbersDistinct, bench_engineAgrees,
    bench_noticesNameEnded, by decide +kernel⟩

theorem witness_DamagedTransactionsAreAnswered :
    ((withLink .reset).port .body).link = .reset ∧ ((withLink .inProgress).port .body).link = .inProgress ∧
      ((withLink .responseWaiting).port .body).link = .responseWaiting ∧ (bench.port .body).link = .idle ∧
      lateLink.early = true ∧ bodyLink.early = false ∧ (0x5B : Byte) ≠ 0x5A ∧ (0x5B : Byte) ≠ 0xA5 ∧ receive [0, 1, 7] = .damaged ∧ 37 < (38 : Byte).toNat := by decide +kernel

/-- A response that waits, read whole and cut short at its last byte; RESET PART's response. -/
theorem witness_ReadTransactionsSendTheResponse :
    let r : Response := { kind := 1, tag := 7, code := .ok, answer := .time 9000000 }
    (answered.port .body).link = .responseWaiting ∧ (answered.port .body).response = some r ∧ r.bytes.length = 10 ∧
      (9 < r.bytes.length ∧ r.bytes.length ≤ 10) ∧ lateLink.early = true ∧ bodyLink.early = false ∧ ((withLink .reset).port .body).link = .reset ∧
      (bench.port .body).link = .idle ∧
      ((after (.resetPart bodyHdr) bench).port .body).response =
        some { kind := ReqKind.resetPart.byte, tag := 7, code := .ok, answer := .none } := by decide +kernel

/-- A band in progress, the end of the input's reset, and the microseconds of an internal reset. -/
theorem witness_ResetsBeginAndEnd :
    (quiet.engine.now = .idle ∧ bench.engine.now = .inBand context1 ∧ (bench.findJob 1).map Job.areasInside = some true) ∧
      bench.power ≠ .inReset ∧ ((after .reset quiet).power = .inReset ∧ (after .reset quiet).resetCtl.internal = 0) ∧
      (let s := { after .reset quiet with resetCtl := { input := false, internal := 1 } }
       s.power = .inReset ∧ s.resetCtl.internal ≠ 0 ∧ s.pending = []) := by decide +kernel

theorem witness_ArithmeticIsExact :
    (later 1 0 = true ∧ earlier 0 1 = true ∧ later 0x7FFFFFFF 0 = true ∧ earlier 0x80000000 0 = true) ∧
      ((150 : Stamp) - 100).toNat < ((200 : Stamp) - 100).toNat ∧ 64 ≤ 64 ∧
      (∀ f ∈ [({ num := 0, den := 1 } : Frac), { num := 260, den := 350 }], 0 < f.den) ∧
      0 < (Pick.only 0 false).weight.den := by decide

/-- A positive half and a negative half between two rows, rounded away from zero. -/
theorem witness_ArithmeticIsExact_halves :
    let b : Blend := { lower := Pick.only 0 false, upper := Pick.only 1 false, weight := { num := 1, den := 2 }, clamped := false }
    b.value (fun i => i) = 1 ∧ b.value (fun i => -i) = -1 := by decide +kernel

theorem witness_PixelsMapByTheFormulas : 0 < bigGeometry.outWidth := by decide

theorem witness_RowsAndLinesAreChosen :
    ([(1000, 4), (1350, 6)].map Prod.fst).Pairwise (· < ·) ∧ (999 < 1000 ∧ 1000 = 1000 ∧ 1000 < 1260 ∧ 1260 < 1350 ∧ 1350 < 1351) ∧
      (zoomNodes.Pairwise fun a b => a.nominal < b.nominal ∨ (a.nominal = b.nominal ∧ a.focus < b.focus)) ∧
      0 < 16 ∧ ([-1, 5] : List Int) ≠ [] ∧ 256 < (List.range 300).length := by
  refine ⟨by decide, by decide, by decide, by decide, by decide, by rw [List.length_range]; decide⟩

/-- The samples at both ends of a frame's columns, of fetched lines and of another, under both border policies; a band written
into empty memory; a sample of a line that is not fetched. -/
theorem witness_RowsAndLinesAreChosen_samples :
    (0 < smallFrame.srcWidth ∧ ([0, 1] : List Nat) ≠ [] ∧ ([0, 1] : List Nat).Pairwise (· < ·) ∧
      ((0 : Int) ≤ 0 ∧ (63 : Int) < smallFrame.srcWidth ∧ ¬ (64 : Int) < smallFrame.srcWidth ∧ (1 : Int).toNat ∈ [0, 1] ∧
        (2 : Int).toNat ∉ [0, 1]) ∧
      smallFrame.border = .edge ∧ { smallFrame with border := .fill }.border = .fill) ∧
    (Memory.wf [] = true ∧ stillJob.geom.outWidth * bytesPerPixel stillJob.geom.format ≤ stillJob.dest.pitch ∧
      (16 * 0 ≤ 15 ∧ 15 < 16 * 0 + 16 ∧ 15 < stillJob.geom.outHeight ∧ 63 < stillJob.geom.outWidth)) ∧
    (0 ≤ (63 : Int) ∧ (63 : Int) < smallFrame.srcWidth ∧ (15 : Int) < smallFrame.srcHeight ∧ (15 : Int).toNat ∉ [0, 1]) := by
  decide +kernel

theorem witness_FramesComeBackFromTheirBytes :
    (1 ≤ [smallNode].length ∧ [smallNode].length ≤ 4 ∧ [endedNotice, endedNotice, endedNotice, endedNotice].length ≤ 4 ∧
      [record1, record1, record1, record1].length ≤ 4) ∧ (∀ n ∈ [smallNode], n.wf = true) ∧ (List.replicate 120 (0 : Byte)).length ≤ 120 ∧ at0.wf = true ∧
      ([0, 0] : List Byte) ≠ crcTail (envelopeHead 1 7 []) := by decide +kernel

end Sys2Proof.Tests
end

/-! SUPPORT. QUERY STORE and the ranges of its counts (R20): a slot with a staging version is one of the slots the open edits are
on, and a RETIRED version is one that an exposure record or an unended job still names. -/

namespace Sys2Proof.Machine

/-! ### The answer -/

theorem exec_queryStore_taken {h : Hdr} {s : State} (ht : Takes .queryStore h s) :
    exec (.queryStore h) s = .next (s.answered .queryStore h .ok
      (.storeCounts s.store.used s.store.free s.store.retiredCount s.store.stagingCount)) := by
  have hr : exec (.queryStore h) s = request .queryStore h ownQueryStore s := rfl
  rw [hr, request_taken ht]
  simp [ownQueryStore]

/-! ### Staging versions: at most one for each open edit -/

/-- The slots that the open edits are on, one for each (R23). -/
def Edits.slots (e : Edits) : List (Fin 32) := (e.body.map Edit.slot).toList ++ (e.transmitter.map Edit.slot).toList

theorem Edits.slots_length_le (e : Edits) : e.slots.length ≤ 2 := by
  have hopt : ∀ o : Option (Fin 32), o.toList.length ≤ 1 := fun o => by cases o <;> simp
  have hb := hopt (e.body.map Edit.slot)
  have ht := hopt (e.transmitter.map Edit.slot)
  simp only [Edits.slots, List.length_append]
  omega

theorem Edits.mem_slots (e : Edits) (i : Fin 32) :
    i ∈ e.slots ↔ (∃ b, e.body = some b ∧ b.slot = i) ∨ ∃ t, e.transmitter = some t ∧ t.slot = i := by simp [Edits.slots]

theorem State.editHolder_isSome_iff (s : State) (i : Fin 32) : (s.editHolder i).isSome ↔ i ∈ s.edits.slots := by
  rw [Edits.mem_slots]
  unfold State.editHolder
  cases s.edits.body with
  | none => cases s.edits.transmitter <;> simp
  | some b =>
    by_cases hb : b.slot = i
    · simp [hb]
    · cases s.edits.transmitter <;> simp [hb]

/-- Law 5 bounds the staging versions by the two edit records. -/
theorem State.stagingCount_le {s : State} (h : s.editsOwnStaging) : s.store.stagingCount ≤ 2 := by
  have hdistinct : (allSlots.filter fun i => (s.store.slot i).staging.isSome).Nodup := (List.nodup_finRange 32).filter _
  have hedited : (allSlots.filter fun i => (s.store.slot i).staging.isSome) ⊆ s.edits.slots := by
    intro i hi
    have hstaging := (List.mem_filter.1 hi).2
    rw [h.1 i] at hstaging
    exact (s.editHolder_isSome_iff i).1 hstaging
  exact (hdistinct.subperm hedited).length_le.trans s.edits.slots_length_le

/-! ### Retired versions: each is named by a holder -/

/-- The references to the RETIRED versions of all slots. -/
def Store.retiredRefs (st : Store) : List ProfileRef :=
  allSlots.flatMap fun i => (st.slot i).retired.map fun v => { slot := i, number := v.number }

theorem Store.mem_retiredRefs (st : Store) (r : ProfileRef) :
    r ∈ st.retiredRefs ↔ ∃ v ∈ (st.slot r.slot).retired, v.number = r.number := by
  simp only [Store.retiredRefs, List.mem_flatMap, List.mem_map, mem_allSlots, true_and]
  constructor
  · rintro ⟨i, v, hv, rfl⟩
    exact ⟨v, hv, rfl⟩
  · rintro ⟨v, hv, hn⟩
    exact ⟨r.slot, v, hv, by rw [hn]⟩

theorem Store.retiredRefs_length (st : Store) : st.retiredRefs.length = st.retiredCount := by
  simp [Store.retiredRefs, Store.retiredCount, List.length_flatMap]

/-- R3: a reference names one version, since the versions of a slot have different numbers. -/
theorem Store.retiredRefs_nodup {st : Store} (h : st.versionsDistinct) : st.retiredRefs.Nodup := by
  refine List.nodup_flatMap.2 ⟨fun i _ => ?_, (List.nodup_finRange 32).imp fun {i j} hij => ?_⟩
  · have hnumbers : ((st.slot i).retired.map Version.number).Nodup := (List.nodup_append.1 (h i)).2.1
    refine List.Nodup.of_map ProfileRef.number ?_
    rwa [List.map_map]
  · intro r hi hj
    obtain ⟨v, -, rfl⟩ := List.mem_map.1 hi
    obtain ⟨w, -, hw⟩ := List.mem_map.1 hj
    exact hij (congrArg ProfileRef.slot hw).symm

/-- The references that exposure records and unended jobs hold, one for each holder (R13). -/
def State.heldRefs (s : State) : List ProfileRef :=
  s.exposure.log.filterMap ExposureRec.ref ++ (s.jobs.table.filter Job.unended).filterMap Job.ref

theorem State.mem_heldRefs_iff (s : State) (r : ProfileRef) : r ∈ s.heldRefs ↔ 0 < s.holders r := by
  simp only [State.heldRefs, State.holders, List.mem_append, List.mem_filterMap, List.mem_filter, Nat.add_pos_iff_pos_or_pos,
    List.length_pos_iff_exists_mem, decide_eq_true_eq, Bool.and_eq_true, and_assoc]

/-- R20: 8 exposure records (R63) and 12 jobs (R104) hold at most 20 references. -/
theorem State.heldRefs_length_le {s : State} (hlog : s.exposure.bounded) (htable : s.tableBounded) : s.heldRefs.length ≤ 20 := by
  have hrecords : (s.exposure.log.filterMap ExposureRec.ref).length ≤ 8 := (List.length_filterMap_le _ _).trans hlog.1
  have hjobs : ((s.jobs.table.filter Job.unended).filterMap Job.ref).length ≤ 12 :=
    calc ((s.jobs.table.filter Job.unended).filterMap Job.ref).length
        ≤ (s.jobs.table.filter Job.unended).length := List.length_filterMap_le _ _
      _ ≤ s.jobs.table.length := List.length_filter_le _ _
      _ ≤ 12 := htable.1
  simp only [State.heldRefs, List.length_append]
  omega

/-- Laws 2 and 3: a RETIRED version has a pin, so something holds a reference to it. -/
theorem State.retiredRefs_subset_heldRefs {s : State} (hpins : s.pinsCounted) (hpinned : s.store.retiredPinned) :
    s.store.retiredRefs ⊆ s.heldRefs := by
  intro r hr
  obtain ⟨v, hv, hn⟩ := (s.store.mem_retiredRefs r).1 hr
  have hcount : v.pins = s.holders { slot := r.slot, number := v.number } := hpins r.slot v (.inr hv)
  have hpos : 0 < v.pins := hpinned r.slot v hv
  rw [hcount, hn] at hpos
  exact (s.mem_heldRefs_iff r).2 hpos

theorem State.retiredCount_le {s : State} (hpins : s.pinsCounted) (hpinned : s.store.retiredPinned)
    (hversions : s.store.versionsDistinct) (hlog : s.exposure.bounded) (htable : s.tableBounded) : s.store.retiredCount ≤ 20 := by
  have hsub := (Store.retiredRefs_nodup hversions).subperm (State.retiredRefs_subset_heldRefs hpins hpinned)
  calc s.store.retiredCount = s.store.retiredRefs.length := s.store.retiredRefs_length.symm
    _ ≤ s.heldRefs.length := hsub.length_le
    _ ≤ 20 := State.heldRefs_length_le hlog htable

/-- Settles O19: the owner's answer, and for each count the law that bounds it. -/
theorem queryStoreAnswersTheCounts : Obligations.QueryStoreAnswersTheCounts := by
  intro h s ht
  refine ⟨exec_queryStore_taken ht, fun hcounted => ?_, State.stagingCount_le, State.retiredCount_le⟩
  have hused : s.store.used ≤ 1536 := hcounted.2
  exact ⟨Nat.add_sub_cancel' hused, hused⟩

end Sys2Proof.Machine

/-! SUPPORT. ABORT EDIT (R41): what an edit record reads as after one is written, which ports' edits hold
a slot, and what an abort leaves in the store and in the edit records. -/

namespace Sys2Proof.Machine

/-! ### Reading the edit records -/

@[simp] theorem State.edit_withStore (s : State) (st : Store) (p : Port) : (s.withStore st).edit p = s.edit p := by
  cases p <;> rfl

@[simp] theorem State.edit_startRequest (s : State) (q p : Port) (kind tag : Byte) :
    (s.startRequest q kind tag).edit p = s.edit p := by cases p <;> simp [State.edit]

@[simp] theorem State.edit_answered (s : State) (k : ReqKind) (h : Hdr) (c : Code) (a : Answer) (p : Port) :
    (s.answered k h c a).edit p = s.edit p := by cases p <;> simp [State.edit]

@[simp] theorem State.edit_setEdit_idle (s : State) (p : Port) : (s.setEdit p none).edit p = none := by cases p <;> rfl

theorem State.edit_setEdit_other (s : State) {p q : Port} (e : Option Edit) (hq : q ≠ p) : (s.setEdit p e).edit q = s.edit q := by
  cases p <;> cases q
  case body.body | mount.mount | transmitter.transmitter => exact absurd rfl hq
  all_goals rfl

/-! ### The holder of a slot -/

/-- R18, R25: a slot has a holder when some port's edit is on it. -/
theorem State.mem_editSlots_iff (s : State) (i : Fin 32) : i ∈ s.edits.slots ↔ ∃ p e, s.edit p = some e ∧ e.slot = i := by
  rw [Edits.mem_slots]
  constructor
  · rintro (⟨e, he, hi⟩ | ⟨e, he, hi⟩)
    · exact ⟨.body, e, he, hi⟩
    · exact ⟨.transmitter, e, he, hi⟩
  · rintro ⟨p, e, he, hi⟩
    cases p with
    | body => exact .inl ⟨e, he, hi⟩
    | transmitter => exact .inr ⟨e, he, hi⟩
    | mount => cases he

theorem State.editHolder_eq_none_iff (s : State) (i : Fin 32) :
    s.editHolder i = none ↔ ∀ p e, s.edit p = some e → e.slot ≠ i := by
  rw [← Option.not_isSome_iff_eq_none, s.editHolder_isSome_iff, s.mem_editSlots_iff]
  push Not
  rfl

/-- Law 5: the edits of two ports are on different slots. -/
theorem State.editsOwnStaging.slot_ne {s : State} (hown : s.editsOwnStaging) {p q : Port} {a b : Edit} (hpq : p ≠ q)
    (ha : s.edit p = some a) (hb : s.edit q = some b) : a.slot ≠ b.slot := by
  obtain ⟨-, hdistinct⟩ := hown
  cases p <;> cases q
  case body.transmitter => exact hdistinct a b ha hb
  case transmitter.body => exact (hdistinct b a hb ha).symm
  case body.body | transmitter.transmitter | mount.mount => exact absurd rfl hpq
  case mount.body | mount.transmitter => cases ha
  case body.mount | transmitter.mount => cases hb

/-! ### Aborting an edit -/

/-- R11: the blocks of a staging version: its header, its nodes and its chroma records. -/
theorem State.stagingCost_eq {s : State} {i : Fin 32} {v : Staging} (hv : (s.store.slot i).staging = some v) :
    s.stagingCost i = 1 + v.nodes.length + chromaCount v.chroma := by
  unfold State.stagingCost
  rw [hv]
  rfl

/-- An abort of an open edit, in the terms of the store and of the edit records. -/
theorem State.abortEdit_open {s : State} {p : Port} {e : Edit} (he : s.edit p = some e) :
    s.abortEdit p = (s.withStore { s.store.setSlot e.slot { s.store.slot e.slot with staging := none } with
      used := s.store.used - s.stagingCost e.slot }).setEdit p none := by
  unfold State.abortEdit
  rw [he]

theorem State.abortEdit_idle {s : State} {p : Port} (he : s.edit p = none) : s.abortEdit p = s := by
  unfold State.abortEdit
  rw [he]

theorem State.abortEdit_slot {s : State} {p : Port} {e : Edit} (he : s.edit p = some e) :
    (s.abortEdit p).store.slot e.slot = { s.store.slot e.slot with staging := none } := by simp [State.abortEdit_open he]

theorem State.abortEdit_slot_other {s : State} {p : Port} {e : Edit} (he : s.edit p = some e) {j : Fin 32} (hj : j ≠ e.slot) :
    (s.abortEdit p).store.slot j = s.store.slot j := by simp [State.abortEdit_open he, Store.slot_setSlot_other _ _ _ _ hj]

theorem State.abortEdit_used {s : State} {p : Port} {e : Edit} (he : s.edit p = some e) :
    (s.abortEdit p).store.used = s.store.used - s.stagingCost e.slot := by simp [State.abortEdit_open he]

@[simp] theorem State.edit_abortEdit (s : State) (p : Port) : (s.abortEdit p).edit p = none := by
  cases he : s.edit p with
  | none => rw [State.abortEdit_idle he, he]
  | some e => simp [State.abortEdit_open he]

theorem State.edit_abortEdit_other (s : State) {p q : Port} (hq : q ≠ p) : (s.abortEdit p).edit q = s.edit q := by
  cases he : s.edit p with
  | none => rw [State.abortEdit_idle he]
  | some e => rw [State.abortEdit_open he, State.edit_setEdit_other _ _ hq, State.edit_withStore]

/-- R41: the slot of an aborted edit is free for an OPEN EDIT, since the other port's edit is on another slot. -/
theorem State.editHolder_abortEdit {s : State} {p : Port} {e : Edit} (hown : s.editsOwnStaging) (he : s.edit p = some e) :
    (s.abortEdit p).editHolder e.slot = none := by
  refine (State.editHolder_eq_none_iff _ _).2 fun q a ha => ?_
  by_cases hq : q = p
  · subst hq
    simp at ha
  · rw [State.edit_abortEdit_other s hq] at ha
    exact hown.slot_ne hq ha he

/-! ### The request -/

/-- The port's note of the request in progress and an abort do not touch each other. -/
theorem State.abortEdit_startRequest (s : State) (p q : Port) (kind tag : Byte) :
    (s.startRequest q kind tag).abortEdit p = (s.abortEdit p).startRequest q kind tag := by
  cases he : s.edit p with
  | none => rw [State.abortEdit_idle he, State.abortEdit_idle (by simpa using he)]
  | some e =>
    rw [State.abortEdit_open he, State.abortEdit_open (s := s.startRequest q kind tag) (by simpa using he)]
    cases p <;> cases q <;> rfl

@[simp] theorem State.stagingCost_startRequest (s : State) (q : Port) (kind tag : Byte) (i : Fin 32) :
    (s.startRequest q kind tag).stagingCost i = s.stagingCost i := by simp [State.stagingCost]

@[simp] theorem State.editHolder_answered (s : State) (k : ReqKind) (h : Hdr) (c : Code) (a : Answer) (i : Fin 32) :
    (s.answered k h c a).editHolder i = s.editHolder i := by simp [State.editHolder]

theorem exec_abortEdit_taken {h : Hdr} {s : State} (ht : Takes .abortEdit h s) :
    exec (.abortEdit h) s = .next (((ownAbortEdit h.port (s.startRequest h.port ReqKind.abortEdit.byte h.tag)).finish h.port
      ReqKind.abortEdit.byte h.tag).send h.port .zeros) := by
  have hr : exec (.abortEdit h) s = request .abortEdit h (ownAbortEdit h.port) s := rfl
  rw [hr, request_taken ht]

theorem exec_abortEdit_idle {h : Hdr} {s : State} (ht : Takes .abortEdit h s) (he : s.edit h.port = none) :
    exec (.abortEdit h) s = refusedWith .abortEdit h s .noEdit .none := by
  rw [exec_abortEdit_taken ht, refusedWith_eq]
  simp [ownAbortEdit, he]

theorem exec_abortEdit_open {h : Hdr} {s : State} {e : Edit} (ht : Takes .abortEdit h s) (he : s.edit h.port = some e) :
    exec (.abortEdit h) s =
      .next ((s.abortEdit h.port).answered .abortEdit h .ok (.freedBlocks (s.stagingCost e.slot))) := by
  rw [exec_abortEdit_taken ht]
  simp [ownAbortEdit, he, State.abortEdit_startRequest]

/-- An abort raises no notice. -/
@[simp] theorem State.abortEdit_notices (s : State) (p q : Port) : (s.abortEdit p).notices q = s.notices q := by
  simp [State.notices, State.port]

/-- Settles O25: the request's outcome by the port's edit record, with the store and the edit records after an abort. -/
theorem abortEditFreesTheStaging : Obligations.AbortEditFreesTheStaging := by
  intro h s ht
  refine ⟨exec_abortEdit_idle ht, fun e v he hv hown => ?_⟩
  rw [← State.stagingCost_eq hv]
  refine ⟨_, exec_abortEdit_open ht he, hasAnswer_answered _ _ _ _ _, ?slot, ?others, ?used, ?idle, ?edits, ?holder, ?tracker,
    ?notices⟩
  case slot => simpa using State.abortEdit_slot he
  case others => exact fun j hj => by simpa using State.abortEdit_slot_other he hj
  case used => simpa using State.abortEdit_used he
  case idle => simp
  case edits => exact fun p hp => by simpa using State.edit_abortEdit_other s hp
  case holder => simpa using State.editHolder_abortEdit hown he
  case tracker => simp
  case notices => simp

end Sys2Proof.Machine

/-! SUPPORT. QUERY EXPOSURE (R79): which record of the log a sequence number finds, what an entry reads for a record in each of the
four states, and the request's outcomes. -/

namespace Sys2Proof.Machine

/-! ### The record a sequence number names -/

@[simp] theorem State.findExposure_startRequest (s : State) (p : Port) (kind tag : Byte) (q : Nat) :
    (s.startRequest p kind tag).findExposure q = s.findExposure q := by simp [State.findExposure]

theorem State.findExposure_eq_none_iff (s : State) (q : Nat) : s.findExposure q = none ↔ ∀ e ∈ s.exposure.log, e.seq ≠ q := by
  simp [State.findExposure]

theorem State.findExposure_eq_some {s : State} {q : Nat} {e : ExposureRec} (h : s.findExposure q = some e) :
    e ∈ s.exposure.log ∧ e.seq = q := ⟨List.mem_of_find?_eq_some h, by simpa using List.find?_some h⟩

/-- R65: sequence numbers are distinct, so a record of the log is the one that its own number finds. -/
theorem State.findExposure_of_mem {s : State} (hdistinct : s.exposure.sequencesDistinct) {e : ExposureRec}
    (he : e ∈ s.exposure.log) : s.findExposure e.seq = some e := by
  cases hfind : s.findExposure e.seq with
  | none => exact absurd rfl ((s.findExposure_eq_none_iff e.seq).1 hfind e he)
  | some a =>
    obtain ⟨ha, hseq⟩ := State.findExposure_eq_some hfind
    rw [List.inj_on_of_nodup_map hdistinct ha he hseq]

/-! ### The fields of an entry -/

@[simp] theorem ExposureRec.entry_seq (e : ExposureRec) : e.entry.seq = e.seq := by
  unfold ExposureRec.entry
  cases e.state <;> rfl

@[simp] theorem ExposureRec.entry_start (e : ExposureRec) : e.entry.start = e.start := by
  unfold ExposureRec.entry
  cases e.state <;> rfl

@[simp] theorem ExposureRec.entry_attachCount (e : ExposureRec) : e.entry.attachCount = e.attachCount := by
  unfold ExposureRec.entry
  cases e.state <;> rfl

@[simp] theorem ExposureRec.entry_key (e : ExposureRec) : e.entry.key = e.key := by
  unfold ExposureRec.entry
  cases e.state <;> rfl

theorem ExposureRec.entry_opened {e : ExposureRec} {l : Stamp} (he : e.state = .opened l) : e.entry =
    { seq := e.seq, state := .opened, start := e.start, ended := none, midpoint := none, attachCount := e.attachCount,
      key := e.key, lens := none, flags := StateFlags.empty, ref := none, deadline := none } := by
  simp [ExposureRec.entry, he]

theorem ExposureRec.entry_awaiting {e : ExposureRec} {ended m d : Stamp} (he : e.state = .awaiting ended m d) : e.entry =
    { seq := e.seq, state := .awaiting, start := e.start, ended := some ended, midpoint := some m,
      attachCount := e.attachCount, key := e.key, lens := none, flags := StateFlags.empty, ref := none,
      deadline := some d } := by
  simp [ExposureRec.entry, he]

theorem ExposureRec.entry_resolved {e : ExposureRec} {ended m : Stamp} {r : Resolution} (he : e.state = .resolved ended m r) :
    e.entry =
    { seq := e.seq, state := .resolved, start := e.start, ended := some ended, midpoint := some m,
      attachCount := e.attachCount, key := e.key, lens := r.lens, flags := r.flags, ref := r.ref, deadline := none } := by
  simp [ExposureRec.entry, he]

theorem ExposureRec.entry_abandoned {e : ExposureRec} (he : e.state = .abandoned) : e.entry =
    { seq := e.seq, state := .abandoned, start := e.start, ended := none, midpoint := none, attachCount := e.attachCount,
      key := e.key, lens := none, flags := StateFlags.empty, ref := none, deadline := none } := by
  simp [ExposureRec.entry, he]

/-! ### The request -/

theorem exec_queryExposure (h : Hdr) (seq : Nat) (s : State) :
    exec (.queryExposure h seq) s = request .queryExposure h (ownQueryExposure seq) s := rfl

theorem exec_queryExposure_notPermitted {h : Hdr} {s : State} (seq : Nat) (hl : (s.port h.port).link = .idle)
    (he : h.early = false) (hp : h.port ≠ .body) :
    exec (.queryExposure h seq) s = refusedWith .queryExposure h s .notPermitted .none := by
  rw [exec_queryExposure, request_notPermitted he hl (by simp [ReqKind.permitted, hp])]

theorem exec_queryExposure_badField {h : Hdr} {s : State} (ht : Takes .queryExposure h s) :
    exec (.queryExposure h 0) s = refusedWith .queryExposure h s .badField .none := by
  rw [exec_queryExposure, request_taken ht, refusedWith_eq]
  simp [ownQueryExposure]

theorem exec_queryExposure_unknown {h : Hdr} {s : State} {seq : Nat} (ht : Takes .queryExposure h s) (hseq : seq ≠ 0)
    (hfind : s.findExposure seq = none) :
    exec (.queryExposure h seq) s = refusedWith .queryExposure h s .unknownExposure .none := by
  rw [exec_queryExposure, request_taken ht, refusedWith_eq]
  simp [ownQueryExposure, hseq, hfind]

theorem exec_queryExposure_found {h : Hdr} {s : State} {seq : Nat} {e : ExposureRec} (ht : Takes .queryExposure h s)
    (hseq : seq ≠ 0) (hfind : s.findExposure seq = some e) :
    exec (.queryExposure h seq) s = .next (s.answered .queryExposure h .ok (.exposure e.entry s.exposure.log.length)) := by
  rw [exec_queryExposure, request_taken ht]
  simp [ownQueryExposure, hseq, hfind]

/-- Settles O30: the request's outcome by port, field and log, and the fields of the answer by the record's state. -/
theorem queryExposureAnswersTheRecord : Obligations.QueryExposureAnswersTheRecord := by
  intro h seq s hl hlen hearly
  refine ⟨exec_queryExposure_notPermitted seq hl hearly, fun hbody => ?_⟩
  have ht : Takes .queryExposure h s := ⟨hl, by simp [ReqKind.permitted, hbody], hlen, hearly⟩
  refine ⟨?zero, fun hseq hnone => exec_queryExposure_unknown ht hseq ((s.findExposure_eq_none_iff seq).2 hnone), ?found⟩
  case zero =>
    rintro rfl
    exact exec_queryExposure_badField ht
  case found =>
    rintro e he hseq rfl hdistinct
    refine ⟨e.entry, exec_queryExposure_found ht hseq (State.findExposure_of_mem hdistinct he), e.entry_seq, e.entry_start,
      e.entry_attachCount, e.entry_key, ?opened, ?awaiting, ?resolved, ?abandoned⟩
    case opened => exact fun l hs => by simp [ExposureRec.entry_opened hs]
    case awaiting => exact fun ended m d hs => by simp [ExposureRec.entry_awaiting hs]
    case resolved => exact fun ended m r hs => by simp [ExposureRec.entry_resolved hs]
    case abandoned => exact fun hs => by simp [ExposureRec.entry_abandoned hs]

end Sys2Proof.Machine

/-! SUPPORT. START STREAM (R100): the streams a request in progress leaves as they are, and the request's outcome by the stream it
names, that stream's state and its configuration. -/

namespace Sys2Proof.Machine

/-! ### Streams under the port's note of a request -/

@[simp] theorem State.stream_startRequest (s : State) (p : Port) (kind tag : Byte) (i : StreamId) :
    (s.startRequest p kind tag).stream i = s.stream i := by cases i <;> simp [State.stream]

/-- The port's note of the request in progress and a stream's record do not touch each other. -/
theorem State.setStream_startRequest (s : State) (p : Port) (kind tag : Byte) (i : StreamId) (x : Stream) :
    (s.startRequest p kind tag).setStream i x = (s.setStream i x).startRequest p kind tag := by cases i <;> cases p <;> rfl

theorem State.streamTo_startRequest (s : State) (p : Port) (kind tag : Byte) (i : StreamId) (x : StreamState) :
    (s.startRequest p kind tag).streamTo i x = (s.streamTo i x).startRequest p kind tag := by
  simp [State.streamTo, State.setStream_startRequest]

/-! ### The request -/

theorem exec_startStream (h : Hdr) (stream : Field StreamId) (s : State) :
    exec (.startStream h stream) s = request .startStream h (ownStartStream stream) s := rfl

theorem exec_startStream_unnamed {h : Hdr} {s : State} (ht : Takes .startStream h s) :
    exec (.startStream h .invalid) s = refusedWith .startStream h s .badField .none := by
  rw [exec_startStream, request_taken ht, refusedWith_eq]
  simp [ownStartStream]

theorem exec_startStream_started {h : Hdr} {s : State} {i : StreamId} (ht : Takes .startStream h s)
    (hi : (s.stream i).state = .running ∨ (s.stream i).state = .draining) :
    exec (.startStream h (.is i)) s = refusedWith .startStream h s .streamState .none := by
  rw [exec_startStream, request_taken ht, refusedWith_eq]
  rcases hi with hi | hi <;> simp [ownStartStream, hi]

theorem exec_startStream_fails {h : Hdr} {s : State} {i : StreamId} {f : ConfigField} (ht : Takes .startStream h s)
    (hi : (s.stream i).state = .halted) (hf : (s.stream i).config.failing = some f) :
    exec (.startStream h (.is i)) s = refusedWith .startStream h s .config (.configFails f) := by
  rw [exec_startStream, request_taken ht, refusedWith_eq]
  simp [ownStartStream, hi, hf]

theorem exec_startStream_runs {h : Hdr} {s : State} {i : StreamId} (ht : Takes .startStream h s)
    (hi : (s.stream i).state = .halted) (hf : (s.stream i).config.failing = none) :
    exec (.startStream h (.is i)) s =
      .next ((s.streamTo i .running).answered .startStream h .ok (.streamState .running)) := by
  rw [exec_startStream, request_taken ht]
  simp [ownStartStream, hi, hf, State.streamTo_startRequest]

/-- Settles O37: the request's outcome by its field, the stream's state and the configuration, in the order of the checks. -/
theorem startStreamChecksAndRuns : Obligations.StartStreamChecksAndRuns := by
  intro h stream s ht
  refine ⟨?unnamed, ?named⟩
  case unnamed =>
    rintro rfl
    exact exec_startStream_unnamed ht
  case named =>
    rintro i rfl
    exact ⟨exec_startStream_started ht, fun hi => ⟨fun f => exec_startStream_fails ht hi, exec_startStream_runs ht hi⟩⟩

end Sys2Proof.Machine

/-! SUPPORT. QUERY JOB (R113): the entry a port may ask for, and the request's outcome by port, number and entry. -/

namespace Sys2Proof.Machine

/-! ### The entry of a number on the asking port -/

@[simp] theorem State.findJob_startRequest (s : State) (p : Port) (kind tag : Byte) (n : Nat) :
    (s.startRequest p kind tag).findJob n = s.findJob n := by simp [State.findJob]

@[simp] theorem State.ownJob_startRequest (s : State) (q : Port) (kind tag : Byte) (p : Port) (n : Nat) :
    (s.startRequest q kind tag).ownJob p n = s.ownJob p n := by simp [State.ownJob]

theorem State.ownJob_eq_some_iff (s : State) (p : Port) (n : Nat) (j : Job) :
    s.ownJob p n = some j ↔ s.findJob n = some j ∧ j.port = p := by
  unfold State.ownJob
  cases s.findJob n with
  | none => simp
  | some x =>
    simp only [Option.ite_none_right_eq_some, Option.some.injEq, and_comm (a := x.port = p)]
    exact and_congr_right fun hx => by rw [hx]

/-- R113: a number is unknown to a port when no entry has it, or an entry submitted on another port. -/
theorem State.ownJob_eq_none_iff (s : State) (p : Port) (n : Nat) :
    s.ownJob p n = none ↔ ∀ j, s.findJob n = some j → j.port ≠ p := by
  simp [Option.eq_none_iff_forall_ne_some, State.ownJob_eq_some_iff]

/-! ### The request -/

theorem exec_queryJob (h : Hdr) (n : Nat) (s : State) :
    exec (.queryJob h n) s = request .queryJob h (ownQueryJob h.port n) s := rfl

theorem exec_queryJob_notPermitted {h : Hdr} {s : State} (n : Nat) (hl : (s.port h.port).link = .idle)
    (he : h.early = false) (hp : h.port = .mount) :
    exec (.queryJob h n) s = refusedWith .queryJob h s .notPermitted .none := by
  rw [exec_queryJob, request_notPermitted he hl (by simp [ReqKind.permitted, hp])]

theorem exec_queryJob_badField {h : Hdr} {s : State} (ht : Takes .queryJob h s) :
    exec (.queryJob h 0) s = refusedWith .queryJob h s .badField .none := by
  rw [exec_queryJob, request_taken ht, refusedWith_eq]
  simp [ownQueryJob]

theorem exec_queryJob_unknown {h : Hdr} {s : State} {n : Nat} (ht : Takes .queryJob h s) (hn : n ≠ 0)
    (hown : s.ownJob h.port n = none) :
    exec (.queryJob h n) s = refusedWith .queryJob h s .unknownJob .none := by
  rw [exec_queryJob, request_taken ht, refusedWith_eq]
  simp [ownQueryJob, hn, hown]

theorem exec_queryJob_found {h : Hdr} {s : State} {n : Nat} {j : Job} (ht : Takes .queryJob h s) (hn : n ≠ 0)
    (hown : s.ownJob h.port n = some j) :
    exec (.queryJob h n) s = .next (s.answered .queryJob h .ok (.job j)) := by
  rw [exec_queryJob, request_taken ht]
  simp [ownQueryJob, hn, hown]

/-- Settles O41: the request's outcome by its port, its number, and the port that submitted the entry. -/
theorem queryJobAnswersTheEntry : Obligations.QueryJobAnswersTheEntry := by
  intro h n s hl hlen hearly
  refine ⟨exec_queryJob_notPermitted n hl hearly, fun hmount => ?_⟩
  have ht : Takes .queryJob h s := ⟨hl, by simp [ReqKind.permitted, hmount], hlen, hearly⟩
  refine ⟨?zero, ?absent, ?present⟩
  case zero =>
    rintro rfl
    exact exec_queryJob_badField ht
  case absent =>
    exact fun hn hnone => exec_queryJob_unknown ht hn ((s.ownJob_eq_none_iff _ _).2 (by simp [hnone]))
  case present =>
    intro j hn hj
    refine ⟨fun hother => exec_queryJob_unknown ht hn ((s.ownJob_eq_none_iff _ _).2 ?_),
      fun hsame => exec_queryJob_found ht hn ((s.ownJob_eq_some_iff _ _ _).2 ⟨hj, hsame⟩)⟩
    simpa [hj] using hother

end Sys2Proof.Machine

/-! SUPPORT. QUERY MEMORY (R152): the answer of the Frame Memory Port, the Body Port that a pending withdrawal holds, and the bounds
of the pause limit and of the unended jobs. -/

namespace Sys2Proof.Machine

/-! ### The answer -/

@[simp] theorem State.unendedCount_startRequest (s : State) (p : Port) (kind tag : Byte) :
    (s.startRequest p kind tag).unendedCount = s.unendedCount := by simp [State.unendedCount]

theorem exec_queryMemory_taken {h : Hdr} {s : State} (ht : Takes .queryMemory h s) :
    exec (.queryMemory h) s = .next (s.answered .queryMemory h .ok
      (.memory s.memPort.window s.memPort.grant s.memPort.pauseLimit s.memPort.pauseTimer s.unendedCount)) := by
  have hr : exec (.queryMemory h) s = request .queryMemory h ownQueryMemory s := rfl
  rw [hr, request_taken ht]
  simp [ownQueryMemory]

/-! ### No pending withdrawal -/

/-- R142, R165: a pending withdrawal holds the Body Port IN_PROGRESS. -/
theorem State.memoryAgrees_body {s : State} (hm : s.memoryAgrees) :
    (s.port .body).link = .inProgress ↔ s.memPort.pendingWithdrawal = true := by
  obtain ⟨-, -, -, hports⟩ := hm
  simpa using hports .body

/-- R170: QUERY MEMORY is a request of the Body Port alone. -/
theorem Takes.queryMemory_body {h : Hdr} {s : State} (ht : Takes .queryMemory h s) : h.port = .body := by
  obtain ⟨-, hpermitted, -⟩ := ht
  simpa [ReqKind.permitted] using hpermitted

/-- R152: the request is taken on the Body Port while that port is IDLE, so no withdrawal holds it. -/
theorem Takes.queryMemory_noPendingWithdrawal {h : Hdr} {s : State} (ht : Takes .queryMemory h s) (hm : s.memoryAgrees) :
    s.memPort.pendingWithdrawal = false := by
  have hbody : (s.port .body).link = .idle := ht.queryMemory_body ▸ ht.1
  have hfree : ¬ (s.port .body).link = .inProgress := by simp [hbody]
  rwa [State.memoryAgrees_body hm, Bool.not_eq_true] at hfree

/-! ### The bounds of the answer -/

/-- R104: the unended jobs are among the 12 entries of the table. -/
theorem State.unendedCount_le {s : State} (h : s.tableBounded) : s.unendedCount ≤ 12 :=
  (List.length_filter_le _ _).trans h.1

/-- Settles O47: the owner's answer, the port that a pending withdrawal would hold, and the law that bounds each number. -/
theorem queryMemoryAnswersThePort : Obligations.QueryMemoryAnswersThePort := by
  intro h s ht
  refine ⟨exec_queryMemory_taken ht, ht.queryMemory_noPendingWithdrawal, fun hlimits => ?_, State.unendedCount_le⟩
  obtain ⟨-, hpause⟩ := hlimits
  exact hpause

end Sys2Proof.Machine

/-! SUPPORT. READ RECORDS (R157): where the walk of the list starts, the newest record it reaches, and the request's outcome by
port, count and starting sequence. -/

namespace Sys2Proof.Machine

/-! ### The walk from the starting sequence -/

/-- R157: sequence 0 serves as "from the oldest". -/
@[simp] theorem recordsFrom_zero (l : List FrameRecord) : recordsFrom 0 l = l := rfl

theorem recordsFrom_of_ne_zero {start : Nat} (hstart : start ≠ 0) (l : List FrameRecord) :
    recordsFrom start l = l.dropWhile fun r => decide (r.seq ≠ start) := if_neg hstart

/-- R157: a sequence other than 0 has no answer exactly when no record of the list has it. -/
theorem recordsFrom_eq_nil_iff {start : Nat} (hstart : start ≠ 0) (l : List FrameRecord) :
    recordsFrom start l = [] ↔ ∀ r ∈ l, r.seq ≠ start := by
  simp [recordsFrom_of_ne_zero hstart, List.dropWhile_eq_nil_iff]

/-- R157: the walk passes the records before the starting one. -/
theorem recordsFrom_append_cons {before rest : List FrameRecord} {r : FrameRecord} (hseq : r.seq ≠ 0)
    (hbefore : ∀ b ∈ before, b.seq ≠ r.seq) : recordsFrom r.seq (before ++ r :: rest) = r :: rest := by
  have hpass : ∀ b ∈ before, decide (b.seq ≠ r.seq) = true := by simpa using hbefore
  rw [recordsFrom_of_ne_zero hseq, List.dropWhile_append_of_pos hpass, List.dropWhile_cons_of_neg (by simp)]

/-- R157: the newest record is the last of the list, wherever the walk starts. -/
theorem newestSeq_append {before list : List FrameRecord} {newest : FrameRecord} (hlast : list.getLast? = some newest) :
    newestSeq (before ++ list) = newest.seq := by simp [newestSeq, List.getLast?_append, hlast]

/-! ### The request -/

theorem exec_readRecords (h : Hdr) (start count : Nat) (s : State) :
    exec (.readRecords h start count) s = request .readRecords h (ownReadRecords start count) s := rfl

theorem exec_readRecords_notPermitted {h : Hdr} {s : State} (start count : Nat) (hl : (s.port h.port).link = .idle)
    (he : h.early = false) (hp : h.port ≠ .transmitter) :
    exec (.readRecords h start count) s = refusedWith .readRecords h s .notPermitted .none := by
  rw [exec_readRecords, request_notPermitted he hl (by simp [ReqKind.permitted, hp])]

theorem exec_readRecords_badField {h : Hdr} {s : State} {count : Nat} (start : Nat) (ht : Takes .readRecords h s)
    (hcount : inRange 1 count 4 = false) :
    exec (.readRecords h start count) s = refusedWith .readRecords h s .badField .none := by
  rw [exec_readRecords, request_taken ht, refusedWith_eq]
  simp [ownReadRecords, hcount]

theorem exec_readRecords_noRecord {h : Hdr} {s : State} {start count : Nat} (ht : Takes .readRecords h s)
    (hcount : inRange 1 count 4 = true) (hfrom : recordsFrom start s.records = []) :
    exec (.readRecords h start count) s = refusedWith .readRecords h s .noRecord .none := by
  rw [exec_readRecords, request_taken ht, refusedWith_eq]
  simp [ownReadRecords, hcount, hfrom]

theorem exec_readRecords_found {h : Hdr} {s : State} {start count : Nat} {list : List FrameRecord}
    (ht : Takes .readRecords h s) (hcount : inRange 1 count 4 = true) (hfrom : recordsFrom start s.records = list)
    (hlist : list ≠ []) :
    exec (.readRecords h start count) s = .next (s.answered .readRecords h .ok
      (.records s.records.length (list.length - count) (newestSeq s.records) (list.take count))) := by
  obtain ⟨r, rest, rfl⟩ := List.exists_cons_of_ne_nil hlist
  rw [exec_readRecords, request_taken ht]
  simp [ownReadRecords, hcount, hfrom]

/-- Settles O49: the request's outcome by its port, its count, and the part of the list that the walk from the start reaches. -/
theorem readRecordsWalksTheList : Obligations.ReadRecordsWalksTheList := by
  intro h start count s hl hlen hearly
  refine ⟨exec_readRecords_notPermitted start count hl hearly, fun hport => ?_⟩
  have ht : Takes .readRecords h s := ⟨hl, by simp [ReqKind.permitted, hport], hlen, hearly⟩
  have hrange : inRange 1 count 4 = true ↔ 1 ≤ count ∧ count ≤ 4 := by simp [inRange]
  refine ⟨fun hout => exec_readRecords_badField start ht ?_, fun hlow hhigh => ?_⟩
  · rw [← Bool.not_eq_true, hrange]
    omega
  have hcount : inRange 1 count 4 = true := hrange.2 ⟨hlow, hhigh⟩
  refine ⟨?absent, ?empty, ?walk⟩
  case absent =>
    exact fun hstart hnone => exec_readRecords_noRecord ht hcount ((recordsFrom_eq_nil_iff hstart _).2 hnone)
  case empty =>
    rintro rfl hempty
    exact exec_readRecords_noRecord ht hcount (by simp [hempty])
  case walk =>
    intro before list newest hrecords hlast holdest hnamed
    have hlist : list ≠ [] := by
      rintro rfl
      simp at hlast
    have hfrom : recordsFrom start s.records = list := by
      by_cases hstart : start = 0
      · simp [hstart, hrecords, holdest hstart]
      · obtain ⟨hbefore, hhead⟩ := hnamed hstart
        obtain ⟨r, rest, rfl⟩ := List.exists_cons_of_ne_nil hlist
        obtain rfl : r.seq = start := by simpa using hhead
        rw [hrecords, recordsFrom_append_cons hstart hbefore]
    rw [exec_readRecords_found ht hcount hfrom hlist, hrecords, newestSeq_append hlast]

end Sys2Proof.Machine

/-! SUPPORT. STANDBY (R184): the owner's part by the unended entries and the power state, and why the engine holds no context while
no entry is unended. -/

namespace Sys2Proof.Machine

/-! ### The owner's part -/

theorem ownStandby_busy {s : State} (hu : s.unendedCount ≠ 0) :
    ownStandby s = refuseWith s .engineBusy (.unended s.unendedCount) := if_pos hu

/-- R184: outside reset the power state becomes STANDBY, and the answer says whether it was another one. -/
theorem ownStandby_taken {s : State} (hu : s.unendedCount = 0) (hp : s.power ≠ .inReset) :
    ownStandby s = answerOk (s.withPower .standby) (.power .standby (decide (s.power ≠ .standby))) := by
  unfold ownStandby
  rw [if_neg (not_not.2 hu)]
  cases hs : s.power with
  | active => rfl
  | waking wakeEnd => rfl
  | standby =>
    have hself : s.withPower .standby = s := by rw [← hs, State.withPower_self]
    simp [hself]
  | inReset => exact absurd hs hp

/-! ### The request -/

theorem exec_standby (h : Hdr) (s : State) : exec (.standby h) s = request .standby h ownStandby s := rfl

theorem exec_standby_notPermitted {h : Hdr} {s : State} (hl : (s.port h.port).link = .idle) (he : h.early = false)
    (hp : h.port ≠ .body) : exec (.standby h) s = refusedWith .standby h s .notPermitted .none := by
  rw [exec_standby, request_notPermitted he hl (by simp [ReqKind.permitted, hp])]

theorem exec_standby_busy {h : Hdr} {s : State} (ht : Takes .standby h s) (hu : s.unendedCount ≠ 0) :
    exec (.standby h) s = refusedWith .standby h s .engineBusy (.unended s.unendedCount) := by
  rw [exec_standby, request_taken ht, refusedWith_eq, ownStandby_busy (by simpa using hu)]
  simp

theorem exec_standby_taken {h : Hdr} {s : State} (ht : Takes .standby h s) (hu : s.unendedCount = 0)
    (hp : s.power ≠ .inReset) :
    exec (.standby h) s = .next ((s.withPower .standby).answered .standby h .ok
      (.power .standby (decide (s.power ≠ .standby)))) := by
  rw [exec_standby, request_taken ht, ownStandby_taken (by simpa using hu) (by simpa using hp)]
  simp

/-! ### The engine without unended jobs -/

theorem State.unendedCount_eq_zero_iff (s : State) :
    s.unendedCount = 0 ↔ ∀ j ∈ s.jobs.table, ¬ j.unended = true := by
  simp [State.unendedCount, List.filter_eq_nil_iff]

/-- R120: the entry of the current job must be RUNNING or PAUSED. -/
theorem EngineState.duty_of_job {e : EngineState} {n : Nat} (hn : e.job = some n) :
    e.duty = some (n, .running) ∨ e.duty = some (n, .paused) := by
  cases e with
  | idle => simp [EngineState.job] at hn
  | inBand c => exact .inl (by simpa [EngineState.job, EngineState.duty] using hn)
  | holding c => exact .inr (by simpa [EngineState.job, EngineState.duty] using hn)

/-- R120: the job of the current context is present, and unended since it is RUNNING or PAUSED. -/
theorem State.engineAgrees.current_unended {s : State} (ha : s.engineAgrees) {n : Nat} (hn : s.engine.now.job = some n) :
    ∃ j ∈ s.jobs.table, j.unended = true := by
  obtain ⟨hrunning, hpaused, -, hpresent, -⟩ := ha
  obtain ⟨j, hj, rfl⟩ := hpresent n hn
  have hstate : j.state = .running ∨ j.state = .paused :=
    (EngineState.duty_of_job hn).imp (hrunning j hj).2 (hpaused j hj).2
  refine ⟨j, hj, ?_⟩
  rcases hstate with hstate | hstate <;> simp [Job.unended, JobState.isEnded, hstate]

theorem EngineState.job_eq_none_iff (e : EngineState) : e.job = none ↔ e = .idle := by
  cases e <;> simp [EngineState.job]

/-- R184: with no entry unended the engine is IDLE. -/
theorem State.engineAgrees.now_idle {s : State} (ha : s.engineAgrees) (hu : s.unendedCount = 0) : s.engine.now = .idle := by
  rw [← EngineState.job_eq_none_iff, Option.eq_none_iff_forall_ne_some]
  intro n hn
  obtain ⟨j, hj, hunended⟩ := ha.current_unended hn
  exact s.unendedCount_eq_zero_iff.1 hu j hj hunended

/-- R121, R138: the shadow stands under a current job and the pause timer runs for one, so an IDLE engine has neither. -/
theorem State.engineAgrees.idle_alone {s : State} (ha : s.engineAgrees) (hidle : s.engine.now = .idle) :
    s.engine.shadow = none ∧ s.memPort.pauseTimer = none := by
  obtain ⟨-, -, -, -, htimer, hshadow⟩ := ha
  refine ⟨Option.eq_none_iff_forall_ne_some.2 fun c hc => ?_, by simpa [hidle, EngineState.held] using htimer⟩
  obtain ⟨-, j, -, hcurrent, -⟩ := hshadow c hc
  simp [hidle, EngineState.job] at hcurrent

/-- Settles O51: the request's outcome by its port and the unended entries, and the contexts, the timer and the withdrawal that
would each need an unended entry or a busy Body Port. -/
theorem standbyIsTakenWhenNoJobIsUnended : Obligations.StandbyIsTakenWhenNoJobIsUnended := by
  intro h s hl hlen hearly hpower
  refine ⟨exec_standby_notPermitted hl hearly, fun hbody => ?_⟩
  have ht : Takes .standby h s := ⟨hl, by simp [ReqKind.permitted, hbody], hlen, hearly⟩
  refine ⟨exec_standby_busy ht, fun hu => ⟨exec_standby_taken ht hu hpower, fun ha hm => ?_⟩⟩
  have hidle : s.engine.now = .idle := ha.now_idle hu
  obtain ⟨hshadow, htimer⟩ := ha.idle_alone hidle
  have hengine : s.engine = { now := .idle, shadow := none } := by rw [← hidle, ← hshadow]
  have hwithdrawal : s.memPort.pendingWithdrawal = false := by
    rw [← Bool.not_eq_true, ← State.memoryAgrees_body hm, ← hbody, hl]
    decide
  exact ⟨hengine, htimer, hwithdrawal⟩

end Sys2Proof.Machine
